-- ==== Sys2Proof/Word.lean ====
section
/-! DEFINITION. The word types of GBHP (00_scope.md R7, R8): a byte is 8 bits, a word 32, a host byte address 24. -/

namespace Sys2Proof

/-- A byte (R8). -/
abbrev Byte := BitVec 8

/-- A bus data word, and every offset and length register: `DATA_W = OFF_W = 32` (R7). -/
abbrev Word := BitVec 32

/-- A host bus byte address: `ADDR_W = 24` (R7). -/
abbrev Addr := BitVec 24

end Sys2Proof
end

