-- ==== Sys2Proof/Syntax.lean ====
section
/-! DEFINITION. The GBHP commands, one constructor per row of spec/opcode_table.json (30_encoding.md R92, R93).
A command word carries no register number and no immediate (R91); the two illegal rows carry the bits that tell their
words apart, so that no bit of the encoding is lost. -/

namespace Sys2Proof

/-- A command word, read (30_encoding.md R92 to R94). -/
inductive Instr where
  /-- `NOP`, 40_command_engine.md R131. -/
  | nop
  /-- `VIEW`, 41_view.md R141. -/
  | view
  /-- `HDR_PARSE`, 42_header.md R150. -/
  | hdrParse
  /-- `HDR_VALIDATE`, 42_header.md R153. -/
  | hdrValidate
  /-- `PKT_PARSE`, 43_packet.md R180. -/
  | pktParse
  /-- `PKT_VALIDATE`, 43_packet.md R183. -/
  | pktValidate
  /-- `TS_DECODE`, 44_timestamp.md R200. -/
  | tsDecode
  /-- `TS_ENCODE`, 44_timestamp.md R210. -/
  | tsEncode
  /-- A word with `RSV = 0` and a reserved opcode, R93. -/
  | reservedOpcode (opcode : Byte)
  /-- A word with `RSV != 0`, R93. -/
  | reservedBits (rsv : BitVec 24) (opcode : Byte)
  deriving DecidableEq, Repr

end Sys2Proof
end

