-- ==== Sys2Proof/WellFormed.lean ====
section
/-! DEFINITION. Which terms of `Instr` stand for a command word (30_encoding.md R93): a reserved opcode is 0x08..0xFF,
and the reserved bits of an illegal word are not zero. -/

namespace Sys2Proof

/-- The term stands for a command word (R92, R93). -/
def Instr.wellFormed : Instr → Bool
  | .nop => true
  | .view => true
  | .hdrParse => true
  | .hdrValidate => true
  | .pktParse => true
  | .pktValidate => true
  | .tsDecode => true
  | .tsEncode => true
  | .reservedOpcode opcode => decide (0x08 ≤ opcode.toNat)
  | .reservedBits rsv _ => decide (rsv ≠ 0#24)

end Sys2Proof
end

