-- ==== Sys2Proof/Decode.lean ====
section
/-! DEFINITION. Decoding a command word (30_encoding.md R90 to R94), and the encoder written from the same table.
A command is one 32-bit word written whole to `CMD`; the bus has no byte enables and no byte order (20_memory.md R67),
so the decoder takes the word. Decoding is total (R94): a word that is no legal command is rejected by the name R93
gives it, as the instruction `reservedBits` or `reservedOpcode`, whose effect R93 and R126 say. -/

namespace Sys2Proof

/-- The field `OPCODE`, bits [7:0] of a command word (R90). -/
def opcodeField (w : Word) : Byte := w.extractLsb' 0 8

/-- The field `RSV`, bits [31:8] of a command word (R90). -/
def rsvField (w : Word) : BitVec 24 := w.extractLsb' 8 24

/-- The opcode map (R92): the command of an opcode, when `RSV = 0`. -/
def decodeOpcode (opcode : Byte) : Instr :=
  if opcode = 0x00#8 then .nop
  else if opcode = 0x01#8 then .view
  else if opcode = 0x02#8 then .hdrParse
  else if opcode = 0x03#8 then .hdrValidate
  else if opcode = 0x04#8 then .pktParse
  else if opcode = 0x05#8 then .pktValidate
  else if opcode = 0x06#8 then .tsDecode
  else if opcode = 0x07#8 then .tsEncode
  else .reservedOpcode opcode

/-- Decoding a command word (R94): the check of `RSV` comes first. -/
def decode (w : Word) : Instr :=
  if rsvField w ≠ 0#24 then .reservedBits (rsvField w) (opcodeField w)
  else decodeOpcode (opcodeField w)

/-- The command word of an instruction (R90, R92, R93): `RSV` above `OPCODE`. -/
def encode : Instr → Word
  | .nop => 0#24 ++ 0x00#8
  | .view => 0#24 ++ 0x01#8
  | .hdrParse => 0#24 ++ 0x02#8
  | .hdrValidate => 0#24 ++ 0x03#8
  | .pktParse => 0#24 ++ 0x04#8
  | .pktValidate => 0#24 ++ 0x05#8
  | .tsDecode => 0#24 ++ 0x06#8
  | .tsEncode => 0#24 ++ 0x07#8
  | .reservedOpcode opcode => 0#24 ++ opcode
  | .reservedBits rsv opcode => rsv ++ opcode

/-- The instruction read from an opcode-table row's bits `w`, of which the row gives `nbits` (the host's fixed name).
Every bit above `nbits` is 0. A command has 32 bits (R90): more than that is no command word (log 9). -/
def decodeTableWord (nbits w : Nat) : Option Instr :=
  if nbits ≤ 32 then some (decode (BitVec.ofNat 32 (w % 2 ^ nbits))) else none

end Sys2Proof
end

