-- ==== Sys2Proof/Config.lean ====
section
/-! DEFINITION. What an implementation of GBHP fixes (00_scope.md R7) and the free values the spec leaves open.
The parameter `BUF_DEPTH` has a default and stands in `State.bufDepth`, so that a statement about every state is a
statement about every frame RAM size; here are its legal range and its default. `MAX_LATENCY` has no default and is an
opaque constant. The fixed lengths of R7 (`HDR_LEN` 24, `VIN_LEN_MAX` 17, `TS_LEN` 6) are the lengths in the types. -/

namespace Sys2Proof

/-- The least legal `BUF_DEPTH`: one frame with an empty payload (R7). -/
def Config.bufDepthMin : Nat := 25

/-- The greatest legal `BUF_DEPTH`: what the window of R62 can hold (R7). -/
def Config.bufDepthMax : Nat := 4177920

/-- The default of `BUF_DEPTH` (R7). -/
def Config.bufDepthDefault : Nat := 131072

/-- How far `MAX_LATENCY` exceeds 1. The spec gives it no default (R7, R276, D30), so nothing is known of it. -/
opaque Config.latencySlack : Nat

/-- The parameter `MAX_LATENCY >= 1` (R7): the bound in clock cycles from the issue of a command to its completion. -/
def Config.maxLatency : Nat := Config.latencySlack + 1

/-- FREE VALUE. The byte that the `n`-th read of a frame RAM byte unwritten since power-up returns: "a fresh draw of
any byte value" (20_memory.md R61, U1). No body: nothing can be proved of it (log 3). -/
opaque Config.freeByte : Nat → Byte

end Sys2Proof
end

