-- ==== Sys2Proof/Machine/State.lean ====
section
/-! DEFINITION. The state of GBHP as plain data: the architectural elements of 10_state.md R20, the machine's inputs
and outputs, and the model's own bookkeeping. Everything that reads or changes a state is in Ops.lean and after it. -/

namespace Sys2Proof.Machine

/-- The error kinds (60_exceptions.md R231). `invalidTime` is reserved: no command raises it (R202). -/
inductive ErrKind where
  | none
  | invalidData
  | invalidHeader
  | invalidTime
  | illegalCommand
  deriving DecidableEq, Repr

/-- The error causes (60_exceptions.md R232). -/
inductive Cause where
  | dataTooSmall
  | dataSizeTooSmall
  | magicInvalid
  | responseCodeInvalid
  | encryptionInvalid
  | vinLengthInvalid
  | reservedBits
  | reservedOpcode
  | noHeader
  | noPacket
  deriving DecidableEq, Repr

/-- A bus response (20_memory.md R66 to R68). -/
inductive Response where
  | okay
  | error
  deriving DecidableEq, Repr

/-- What the host port last answered (R50: read data and response are outputs of GBHP). -/
inductive BusReply where
  /-- No access has been performed yet (log 7). -/
  | idle
  /-- The response to a write. -/
  | wrote (r : Response)
  /-- The response and the data of a read. -/
  | read (r : Response) (data : Word)
  deriving DecidableEq, Repr

/-- What the environment of the machine does in one step (00_scope.md R4, 20_memory.md R75; log 1). -/
inductive Input where
  /-- The host writes a word (R74). -/
  | write (addr : Addr) (data : Word)
  /-- The host reads a word (R74). -/
  | read (addr : Addr)
  /-- The command engine takes its completion step, if it is enabled (R122). -/
  | engine
  /-- A clock cycle passes with no access (R276; log 5). -/
  | clock
  /-- The pin `rst_n` is sampled at this level (R260; log 6). -/
  | rst (level : Bool)
  deriving DecidableEq, Repr

/-- The frame RAM: the bytes written since power-up, as (index, byte) pairs. An index that is not listed holds no
defined value (20_memory.md R61). The canonical form, `Memory.wf` in Ops.lean, is: indices strictly rising. -/
abbrev Memory := List Host.Cell

/-- The state of GBHP. The fields down to `ram` are the list of 10_state.md R20, in its order. -/
structure State where
  /-- `irq_en`: interrupt enable. -/
  irqEn : Bool
  /-- `busy`: a command is in flight. -/
  busy : Bool
  /-- `done`: a command completed since the last issue or acknowledge. -/
  done : Bool
  /-- `wr_busy`: a host write was dropped because `busy` was 1. -/
  wrBusy : Bool
  /-- `hdr_loaded`: the header group is live. -/
  hdrLoaded : Bool
  /-- `pkt_loaded`: the packet group is live. -/
  pktLoaded : Bool
  /-- `ts_loaded`: the timestamp-decode group is live. -/
  tsLoaded : Bool
  /-- `view_loaded`: the view group is live. -/
  viewLoaded : Bool
  /-- `valid`: the last completed command was a validate that passed. -/
  valid : Bool
  /-- `err_kind` of the last completed command. -/
  errKind : BitVec 4
  /-- `err_cause` of the last completed command. -/
  errCause : BitVec 8
  /-- `err_info` of the last completed command. -/
  errInfo : Word
  /-- `cmd`: the last accepted command word. -/
  cmd : Word
  /-- `buf_len`: length of the backing buffer in bytes. -/
  bufLen : Word
  /-- `arg_offset`: the offset operand. -/
  argOffset : Word
  /-- `arg_length`: the length operand. -/
  argLength : Word
  /-- `enc_year`: encoder input, the calendar year. -/
  encYear : BitVec 16
  /-- `enc_month`. -/
  encMonth : Byte
  /-- `enc_day`. -/
  encDay : Byte
  /-- `enc_hour`. -/
  encHour : Byte
  /-- `enc_minute`. -/
  encMinute : Byte
  /-- `enc_second`. -/
  encSecond : Byte
  /-- `hdr_raw`: the latched header bytes. -/
  hdrRaw : Vector Byte 24
  /-- `hdr_offset`: the offset the header was parsed at. -/
  hdrOffset : Word
  /-- `pay_offset`: the payload view's offset. -/
  payOffset : Word
  /-- `pay_len`: the payload view's length. -/
  payLen : Word
  /-- `checksum`: the trailing checksum byte. -/
  checksum : Byte
  /-- `view_offset`: the generic view's offset. -/
  viewOffset : Word
  /-- `view_len`: the generic view's length. -/
  viewLen : Word
  /-- `ts_raw`: the latched timestamp bytes. -/
  tsRaw : Vector Byte 6
  /-- `ts_offset`: the offset the timestamp was decoded at. -/
  tsOffset : Word
  /-- `ts_out`: the encoder's output bytes. -/
  tsOut : Vector Byte 6
  /-- `RAM`: the frame RAM. -/
  ram : Memory
  /-- The parameter `BUF_DEPTH` (00_scope.md R7); no step changes it (log 4). -/
  bufDepth : Nat
  /-- The input `rst_n` as last sampled (R260; log 6). -/
  rstN : Bool
  /-- The output of the host port: its last reply (R50; log 7). -/
  bus : BusReply
  /-- The model's own: what the environment does next, first things first (log 1). -/
  inputs : List Input
  /-- The model's own: how many undefined RAM bytes have been drawn (log 3). -/
  draws : Nat
  /-- The model's own: clock cycles the command in flight has waited (log 5). -/
  waited : Nat
  deriving DecidableEq, Repr

/-- The reasons the machine stops with a fault. There are none: a failing command completes with an error code
(60_exceptions.md R230), a bus error is a response (R236), and reset and idleness change no run into a stop. That no
constructor exists is safe: the model forbids nothing by faulting. -/
inductive Fault where
  deriving DecidableEq, Repr

/-- The reasons for which the model has no meaning for an instruction. -/
inductive Refusal where
  /-- Raised only by an arm of `exec` whose instruction has no meaning yet. No arm is such an arm: nobody raises it. A
  refusal of this kind would be safe: nothing could be proved of the run after it. -/
  | notModelled (mnemonic : String)
  deriving DecidableEq, Repr

/-- The machine right after a hardware reset that follows power-up: every element at the value of 10_state.md R53, the
RAM unwritten (R61), `BUF_DEPTH` at its default (R7), `rst_n` released, nothing scheduled (logs 1, 3 to 7). -/
def State.reset : State where
  irqEn := false
  busy := false
  done := false
  wrBusy := false
  hdrLoaded := false
  pktLoaded := false
  tsLoaded := false
  viewLoaded := false
  valid := false
  errKind := 0
  errCause := 0
  errInfo := 0
  cmd := 0
  bufLen := 0
  argOffset := 0
  argLength := 0
  encYear := 0
  encMonth := 0
  encDay := 0
  encHour := 0
  encMinute := 0
  encSecond := 0
  hdrRaw := Vector.replicate 24 0#8
  hdrOffset := 0
  payOffset := 0
  payLen := 0
  checksum := 0
  viewOffset := 0
  viewLen := 0
  tsRaw := Vector.replicate 6 0#8
  tsOffset := 0
  tsOut := Vector.replicate 6 0#8
  ram := []
  bufDepth := Config.bufDepthDefault
  rstN := true
  bus := .idle
  inputs := []
  draws := 0
  waited := 0

end Sys2Proof.Machine
end

