-- ==== Sys2Proof/Machine/Operands.lean ====
section
/-! DEFINITION. The number notation of 00_scope.md R9, and the operands of the commands (30_encoding.md R91): every
offset and length is zero-extended to an exact integer before any arithmetic. -/

namespace Sys2Proof.Machine

/-- `sat32(x) = min(x, 0xFFFFFFFF)` (R9). -/
def sat32 (x : Nat) : Word := BitVec.ofNat 32 (min x 0xFFFFFFFF)

/-- `be16(hi, lo) = hi * 256 + lo` (R9): big-endian, 20_memory.md R70. -/
def be16 (hi lo : Byte) : BitVec 16 := hi ++ lo

/-- `s8(b)`: the signed value of a byte (R9). -/
def s8 (b : Byte) : Int := if b.toNat < 128 then (b.toNat : Int) else (b.toNat : Int) - 256

/-- `tc32(x)`: the 32-bit two's-complement encoding of an integer (R9). -/
def tc32 (x : Int) : Word := BitVec.ofInt 32 x

/-- Four bytes of a sequence in one register: the lower index in the less significant lane (20_memory.md R71). -/
def lanes (b0 b1 b2 b3 : Byte) : Word := b3 ++ b2 ++ b1 ++ b0

/-- The operand `off = zext(arg_offset)` (R91). -/
def offsetArg (s : State) : Nat := s.argOffset.toNat

/-- The operand `len = zext(arg_length)` (R91). -/
def lengthArg (s : State) : Nat := s.argLength.toNat

/-- The length of the backing buffer, `buf_len` as an exact integer (R91). -/
def bufferLen (s : State) : Nat := s.bufLen.toNat

/-- `InBounds(off, len)`: exact arithmetic, no wrap (41_view.md R140). -/
def inBounds (s : State) (off len : Nat) : Bool := decide (off + len ≤ bufferLen s)

/-- The byte `vin[j]` of the 24 header bytes, `j` in 0..16 (30_encoding.md R102), as a list. -/
def vinBytes (h : Vector Byte 24) : List Byte := (h.toList.drop 4).take 17

/-- The index of the first `0x00` among the VIN bytes, or 17 if there is none (10_state.md R43). -/
def vinLength (h : Vector Byte 24) : Nat := (vinBytes h).findIdx (fun b => b == 0x00#8)

/-- `magic()` of the header bytes (30_encoding.md R101). -/
def magicOf (h : Vector Byte 24) : BitVec 16 := be16 h[0] h[1]

/-- `data_length()` of the header bytes (30_encoding.md R101). -/
def dataLengthOf (h : Vector Byte 24) : BitVec 16 := be16 h[22] h[23]

end Sys2Proof.Machine
end

