-- ==== Sys2Proof/Machine/Flags.lean ====
section
/-! DEFINITION. The numeric codes of error kinds, causes and enumerations, the derived status bits, the `STATUS` word and
the output `irq`. GBHP has no arithmetic condition codes; its flags are the bits of `STATUS` (10_state.md R51). -/

namespace Sys2Proof.Machine

/-- `STATUS.ERR_KIND` codes (60_exceptions.md R231). -/
def ErrKind.code : ErrKind → BitVec 4
  | .none => 0
  | .invalidData => 1
  | .invalidHeader => 2
  | .invalidTime => 3
  | .illegalCommand => 4

/-- The kind of each cause (60_exceptions.md R232). -/
def Cause.kind : Cause → ErrKind
  | .dataTooSmall => .invalidData
  | .dataSizeTooSmall => .invalidHeader
  | .magicInvalid => .invalidHeader
  | .responseCodeInvalid => .invalidHeader
  | .encryptionInvalid => .invalidHeader
  | .vinLengthInvalid => .invalidHeader
  | .reservedBits => .illegalCommand
  | .reservedOpcode => .illegalCommand
  | .noHeader => .illegalCommand
  | .noPacket => .illegalCommand

/-- `STATUS.ERR_CAUSE` codes, numbered within each kind (60_exceptions.md R232). -/
def Cause.code : Cause → BitVec 8
  | .dataTooSmall => 0x01
  | .dataSizeTooSmall => 0x01
  | .magicInvalid => 0x02
  | .responseCodeInvalid => 0x03
  | .encryptionInvalid => 0x04
  | .vinLengthInvalid => 0x05
  | .reservedBits => 0x01
  | .reservedOpcode => 0x02
  | .noHeader => 0x03
  | .noPacket => 0x04

/-- `CmdEnum`: the code of the frame command byte (30_encoding.md R105). -/
def cmdEnum (b : Byte) : BitVec 3 :=
  if b = 0x01#8 then 1
  else if b = 0x02#8 then 2
  else if b = 0x03#8 then 3
  else if b = 0x04#8 then 4
  else if b = 0x05#8 then 5
  else if b = 0x06#8 then 6
  else 7

/-- `RspEnum`: the code of the response code byte (30_encoding.md R106). -/
def rspEnum (b : Byte) : BitVec 3 :=
  if b = 0x01#8 then 1
  else if b = 0x02#8 then 2
  else if b = 0x03#8 then 3
  else if b = 0xFE#8 then 4
  else 7

/-- `EncEnum`: the code of the encryption byte (30_encoding.md R107). -/
def encEnum (b : Byte) : BitVec 3 :=
  if b = 0x00#8 then 0
  else if b = 0x01#8 then 1
  else if b = 0x02#8 then 2
  else if b = 0xFE#8 then 3
  else 7

/-- `STATUS.ERR` (10_state.md R30). -/
def errFlag (s : State) : Bool := s.errKind != 0#4

/-- `STATUS.LEN_MISMATCH` (10_state.md R29): the declared length against the payload view's length. It has no effect on
any command (43_packet.md R184). -/
def lenMismatch (s : State) : Bool := s.pktLoaded && s.payLen != (dataLengthOf s.hdrRaw).setWidth 32

/-- The word `STATUS` reads (10_state.md R26), from bit 31 down to bit 0. -/
def statusWord (s : State) : Word :=
  0#8 ++ s.errCause ++ s.errKind ++ 0#2 ++ BitVec.ofBool s.wrBusy ++ BitVec.ofBool (lenMismatch s) ++
    BitVec.ofBool s.valid ++ BitVec.ofBool s.viewLoaded ++ BitVec.ofBool s.tsLoaded ++ BitVec.ofBool s.pktLoaded ++
    BitVec.ofBool s.hdrLoaded ++ BitVec.ofBool (errFlag s) ++ BitVec.ofBool s.done ++ BitVec.ofBool s.busy

/-- The level output `irq` (10_state.md R50, 60_exceptions.md R241). -/
def irq (s : State) : Bool := s.irqEn && s.done

/-- A failure of this command clears `view_loaded` (40_command_engine.md R126). -/
def failClearsView : Instr → Bool
  | .view => true
  | .nop => false
  | .hdrParse => false
  | .hdrValidate => false
  | .pktParse => false
  | .pktValidate => false
  | .tsDecode => false
  | .tsEncode => false
  | .reservedOpcode _ => false
  | .reservedBits _ _ => false

/-- A failure of this command clears `hdr_loaded` and `pkt_loaded` (40_command_engine.md R126). -/
def failClearsHeader : Instr → Bool
  | .hdrParse => true
  | .pktParse => true
  | .nop => false
  | .view => false
  | .hdrValidate => false
  | .pktValidate => false
  | .tsDecode => false
  | .tsEncode => false
  | .reservedOpcode _ => false
  | .reservedBits _ _ => false

/-- A failure of this command clears `ts_loaded` (40_command_engine.md R126). -/
def failClearsTs : Instr → Bool
  | .tsDecode => true
  | .nop => false
  | .view => false
  | .hdrParse => false
  | .hdrValidate => false
  | .pktParse => false
  | .pktValidate => false
  | .tsEncode => false
  | .reservedOpcode _ => false
  | .reservedBits _ _ => false

/-- A success of this command sets `valid` (40_command_engine.md R125, 10_state.md R28). -/
def successSetsValid : Instr → Bool
  | .hdrValidate => true
  | .pktValidate => true
  | .nop => false
  | .view => false
  | .hdrParse => false
  | .pktParse => false
  | .tsDecode => false
  | .tsEncode => false
  | .reservedOpcode _ => false
  | .reservedBits _ _ => false

end Sys2Proof.Machine
end

