-- ==== Sys2Proof/Machine/Ops.lean ====
section
/-! DEFINITION. The named operations over the frame RAM and the state: reading and writing RAM bytes, buffer mutation,
issue, the two commits of a command (success, and failure, which is the only exception GBHP has: 60_exceptions.md R230,
R237), and reset. GBHP has no return from an exception (R238). -/

namespace Sys2Proof.Machine

/-- The canonical form of the frame RAM: indices strictly rising. (An unlisted index has no value, so no entry can
equal it.) -/
abbrev Memory.wf (m : Memory) : Prop := m.Pairwise (fun x y => x.1 < y.1)

/-- The byte at an index, if one has been written since power-up (20_memory.md R61). -/
def Memory.read? : Memory → Nat → Option Byte
  | [], _ => none
  | (a, b) :: m, i => if a = i then some b else Memory.read? m i

/-- `MemWrite(i, 1, b)` (00_scope.md R10): the byte at an index becomes `b`. -/
def Memory.write : Memory → Nat → Byte → Memory
  | [], i, b => [(i, b)]
  | (a, c) :: m, i, b =>
    if i < a then (i, b) :: (a, c) :: m
    else if i = a then (i, b) :: m
    else (a, c) :: Memory.write m i b

/-- Reading one RAM byte (20_memory.md R61): the byte written there, or a fresh draw of the free value; with it the
number of draws made so far (log 3). -/
def readByte (m : Memory) (i draws : Nat) : Byte × Nat :=
  match m.read? i with
  | some b => (b, draws)
  | none => (Config.freeByte draws, draws + 1)

/-- `MemRead(i, n)` (00_scope.md R10, 20_memory.md R73): the bytes at `i`, `i + 1`, .., `i + n - 1`, read one at a time
in that order, and the number of draws made so far. -/
def memRead (m : Memory) (i draws : Nat) : (n : Nat) → Vector Byte n × Nat
  | 0 => (#v[], draws)
  | n + 1 =>
    let front := memRead m i draws n
    let last := readByte m (i + n) front.2
    (front.1.push last.1, last.2)

/-- How many of the `n` indices from `i` on nothing has written since power-up (20_memory.md R61). -/
def unwrittenCount (m : Memory) (i : Nat) : (n : Nat) → Nat
  | 0 => 0
  | n + 1 => unwrittenCount m i n + (if (m.read? (i + n)).isNone then 1 else 0)

/-- `buffer_mutation()` (20_memory.md R65). -/
def mutateBuffer (s : State) : State :=
  { s with hdrLoaded := false, pktLoaded := false, tsLoaded := false, viewLoaded := false }

/-- Issuing a command word (40_command_engine.md R120). -/
def issue (w : Word) (s : State) : State := { s with cmd := w, busy := true, done := false, waited := 0 }

/-- A host write dropped because a command is in flight (40_command_engine.md R123). -/
def dropWrite (s : State) : State := { s with wrBusy := true }

/-- Recording the host port's reply to an access (20_memory.md R68; log 7). -/
def reply (r : BusReply) (s : State) : State := { s with bus := r }

/-- The effect of a reset of either kind (70_reset_and_hazards.md R261): every element of 10_state.md R20 but `RAM` goes
to its value of R53. The parameter, the pin, the host port's reply and what the environment does next are no such
elements; the draws of undefined bytes go on (log 6). -/
def resetElements (s : State) : State :=
  { State.reset with
    ram := s.ram, bufDepth := s.bufDepth, rstN := s.rstN, bus := s.bus, inputs := s.inputs, draws := s.draws }

/-- What a command's pseudocode answers (40_command_engine.md R124): success, with the state its updates make, or
failure, with cause (whose kind is `Cause.kind`) and info. -/
inductive Verdict where
  | success (updated : State)
  | fail (cause : Cause) (info : Word)
  deriving DecidableEq, Repr

/-- `commit_success(d, updates)` (40_command_engine.md R125), `updated` being the state with the updates applied. -/
def commitSuccess (i : Instr) (updated : State) : State :=
  { updated with
    errKind := 0, errCause := 0, errInfo := 0, valid := successSetsValid i, busy := false, done := true }

/-- `commit_failure(d, k, c, i)` (40_command_engine.md R126): the one way a command's failure is taken. It writes no
result register. -/
def commitFailure (i : Instr) (cause : Cause) (info : Word) (s : State) : State :=
  { s with
    errKind := cause.kind.code, errCause := cause.code, errInfo := info, valid := false,
    viewLoaded := s.viewLoaded && !failClearsView i,
    hdrLoaded := s.hdrLoaded && !failClearsHeader i,
    pktLoaded := s.pktLoaded && !failClearsHeader i,
    tsLoaded := s.tsLoaded && !failClearsTs i,
    busy := false, done := true }

/-- The end of the completion step (40_command_engine.md R124): one of the two commits. -/
def commit (i : Instr) (v : Verdict) (s : State) : Host.Outcome State Fault Refusal :=
  match v with
  | .success updated => .next (commitSuccess i updated)
  | .fail cause info => .next (commitFailure i cause info s)

end Sys2Proof.Machine
end

