-- ==== Sys2Proof/Machine/Registers.lean ====
section
/-! DEFINITION. The register map (10_state.md R22 to R49): the registers' offsets and access types, what each reads, and
what a host write to each does. -/

namespace Sys2Proof.Machine

/-- The registers of 10_state.md R23. -/
inductive Reg where
  | id | ctrl | status | cmd | bufLen | argOffset | argLength | errInfo | encDate | encTime | bufDepth
  | hdrOffset | hdrMagic | hdrCodes | hdrEnc | hdrVin0 | hdrVin1 | hdrVin2 | hdrVin3 | hdrVin4 | hdrVinLen
  | pktPayOffset | pktPayLen | pktChecksum
  | viewOffset | viewLen
  | tsOffset | tsRawLo | tsRawHi | tsYear | tsMon0 | tsDate | tsTime | tsOutLo | tsOutHi
  deriving DecidableEq, Repr

/-- The access types of the table of 10_state.md R23 (R22). -/
inductive Access where
  | ro | rw | rwWo | roW1c
  deriving DecidableEq, Repr

/-- The offsets of 10_state.md R23. -/
def Reg.offset : Reg → Nat
  | .id => 0x000
  | .ctrl => 0x004
  | .status => 0x008
  | .cmd => 0x00C
  | .bufLen => 0x010
  | .argOffset => 0x014
  | .argLength => 0x018
  | .errInfo => 0x01C
  | .encDate => 0x020
  | .encTime => 0x024
  | .bufDepth => 0x028
  | .hdrOffset => 0x040
  | .hdrMagic => 0x044
  | .hdrCodes => 0x048
  | .hdrEnc => 0x04C
  | .hdrVin0 => 0x050
  | .hdrVin1 => 0x054
  | .hdrVin2 => 0x058
  | .hdrVin3 => 0x05C
  | .hdrVin4 => 0x060
  | .hdrVinLen => 0x064
  | .pktPayOffset => 0x070
  | .pktPayLen => 0x074
  | .pktChecksum => 0x078
  | .viewOffset => 0x080
  | .viewLen => 0x084
  | .tsOffset => 0x090
  | .tsRawLo => 0x094
  | .tsRawHi => 0x098
  | .tsYear => 0x09C
  | .tsMon0 => 0x0A0
  | .tsDate => 0x0A4
  | .tsTime => 0x0A8
  | .tsOutLo => 0x0B0
  | .tsOutHi => 0x0B4

/-- Every register, in the order of 10_state.md R23. -/
def Reg.all : List Reg :=
  [.id, .ctrl, .status, .cmd, .bufLen, .argOffset, .argLength, .errInfo, .encDate, .encTime, .bufDepth,
   .hdrOffset, .hdrMagic, .hdrCodes, .hdrEnc, .hdrVin0, .hdrVin1, .hdrVin2, .hdrVin3, .hdrVin4, .hdrVinLen,
   .pktPayOffset, .pktPayLen, .pktChecksum, .viewOffset, .viewLen,
   .tsOffset, .tsRawLo, .tsRawHi, .tsYear, .tsMon0, .tsDate, .tsTime, .tsOutLo, .tsOutHi]

/-- The register at a byte offset, if the table of 10_state.md R23 lists one there. -/
def Reg.ofOffset (n : Nat) : Option Reg := Reg.all.find? (fun r => r.offset == n)

/-- The access types of 10_state.md R23. -/
def Reg.access : Reg → Access
  | .ctrl => .rwWo
  | .status => .roW1c
  | .cmd => .rw
  | .bufLen => .rw
  | .argOffset => .rw
  | .argLength => .rw
  | .encDate => .rw
  | .encTime => .rw
  | .id => .ro
  | .errInfo => .ro
  | .bufDepth => .ro
  | .hdrOffset => .ro
  | .hdrMagic => .ro
  | .hdrCodes => .ro
  | .hdrEnc => .ro
  | .hdrVin0 => .ro
  | .hdrVin1 => .ro
  | .hdrVin2 => .ro
  | .hdrVin3 => .ro
  | .hdrVin4 => .ro
  | .hdrVinLen => .ro
  | .pktPayOffset => .ro
  | .pktPayLen => .ro
  | .pktChecksum => .ro
  | .viewOffset => .ro
  | .viewLen => .ro
  | .tsOffset => .ro
  | .tsRawLo => .ro
  | .tsRawHi => .ro
  | .tsYear => .ro
  | .tsMon0 => .ro
  | .tsDate => .ro
  | .tsTime => .ro
  | .tsOutLo => .ro
  | .tsOutHi => .ro

/-- What a read of a register returns (10_state.md R24 to R49). No read has a side effect (20_memory.md R68). -/
def readReg (r : Reg) (s : State) : Word :=
  match r with
  | .id => 0x32393630
  | .ctrl => 0#31 ++ BitVec.ofBool s.irqEn
  | .status => statusWord s
  | .cmd => s.cmd
  | .bufLen => s.bufLen
  | .argOffset => s.argOffset
  | .argLength => s.argLength
  | .errInfo => s.errInfo
  | .encDate => s.encDay ++ s.encMonth ++ s.encYear
  | .encTime => 0#8 ++ s.encSecond ++ s.encMinute ++ s.encHour
  | .bufDepth => BitVec.ofNat 32 s.bufDepth
  | .hdrOffset => s.hdrOffset
  | .hdrMagic => (magicOf s.hdrRaw).setWidth 32
  | .hdrCodes => 0#5 ++ rspEnum s.hdrRaw[3] ++ s.hdrRaw[3] ++ 0#5 ++ cmdEnum s.hdrRaw[2] ++ s.hdrRaw[2]
  | .hdrEnc => dataLengthOf s.hdrRaw ++ 0#5 ++ encEnum s.hdrRaw[21] ++ s.hdrRaw[21]
  | .hdrVin0 => lanes s.hdrRaw[4] s.hdrRaw[5] s.hdrRaw[6] s.hdrRaw[7]
  | .hdrVin1 => lanes s.hdrRaw[8] s.hdrRaw[9] s.hdrRaw[10] s.hdrRaw[11]
  | .hdrVin2 => lanes s.hdrRaw[12] s.hdrRaw[13] s.hdrRaw[14] s.hdrRaw[15]
  | .hdrVin3 => lanes s.hdrRaw[16] s.hdrRaw[17] s.hdrRaw[18] s.hdrRaw[19]
  | .hdrVin4 => lanes s.hdrRaw[20] 0#8 0#8 0#8
  | .hdrVinLen => BitVec.ofNat 32 (vinLength s.hdrRaw)
  | .pktPayOffset => s.payOffset
  | .pktPayLen => s.payLen
  | .pktChecksum => s.checksum.setWidth 32
  | .viewOffset => s.viewOffset
  | .viewLen => s.viewLen
  | .tsOffset => s.tsOffset
  | .tsRawLo => lanes s.tsRaw[0] s.tsRaw[1] s.tsRaw[2] s.tsRaw[3]
  | .tsRawHi => lanes s.tsRaw[4] s.tsRaw[5] 0#8 0#8
  | .tsYear => tc32 (100 + s8 s.tsRaw[0])
  | .tsMon0 => tc32 ((s.tsRaw[1].toNat : Int) - 1)
  | .tsDate => lanes s.tsRaw[1] s.tsRaw[2] 0#8 0#8
  | .tsTime => lanes s.tsRaw[3] s.tsRaw[4] s.tsRaw[5] 0#8
  | .tsOutLo => lanes s.tsOut[0] s.tsOut[1] s.tsOut[2] s.tsOut[3]
  | .tsOutHi => lanes s.tsOut[4] s.tsOut[5] 0#8 0#8

/-- A write that is accepted only while no command is in flight, and dropped otherwise (40_command_engine.md R123). -/
def whenIdle (s accepted : State) : State := if s.busy then dropWrite s else accepted

/-- A write to `CTRL` (10_state.md R25, 70_reset_and_hazards.md R262): the soft reset wins over bit 0. -/
def writeCtrl (w : Word) (s : State) : State :=
  if w[1] then resetElements s else { s with irqEn := w[0] }

/-- A write to `STATUS` (10_state.md R26): two write-1-to-clear bits. -/
def writeStatus (w : Word) (s : State) : State :=
  { s with done := s.done && !w[1], wrBusy := s.wrBusy && !w[9] }

/-- An accepted write to `BUF_LEN` (10_state.md R32): it stores `min(w, BUF_DEPTH)` and is a buffer mutation. -/
def writeBufLen (w : Word) (s : State) : State :=
  mutateBuffer { s with bufLen := BitVec.ofNat 32 (min w.toNat s.bufDepth) }

/-- An accepted write to `ENC_DATE` (10_state.md R35). -/
def writeEncDate (w : Word) (s : State) : State :=
  { s with encYear := w.extractLsb' 0 16, encMonth := w.extractLsb' 16 8, encDay := w.extractLsb' 24 8 }

/-- An accepted write to `ENC_TIME` (10_state.md R36): bits [31:24] are ignored. -/
def writeEncTime (w : Word) (s : State) : State :=
  { s with encHour := w.extractLsb' 0 8, encMinute := w.extractLsb' 8 8, encSecond := w.extractLsb' 16 8 }

/-- What a host write to a register does (10_state.md R22). A write to an `RO` register is ignored. -/
def writeReg (r : Reg) (w : Word) (s : State) : State :=
  match r with
  | .ctrl => writeCtrl w s
  | .status => writeStatus w s
  | .cmd => whenIdle s (issue w s)
  | .bufLen => whenIdle s (writeBufLen w s)
  | .argOffset => whenIdle s { s with argOffset := w }
  | .argLength => whenIdle s { s with argLength := w }
  | .encDate => whenIdle s (writeEncDate w s)
  | .encTime => whenIdle s (writeEncTime w s)
  | .id => s
  | .errInfo => s
  | .bufDepth => s
  | .hdrOffset => s
  | .hdrMagic => s
  | .hdrCodes => s
  | .hdrEnc => s
  | .hdrVin0 => s
  | .hdrVin1 => s
  | .hdrVin2 => s
  | .hdrVin3 => s
  | .hdrVin4 => s
  | .hdrVinLen => s
  | .pktPayOffset => s
  | .pktPayLen => s
  | .pktChecksum => s
  | .viewOffset => s
  | .viewLen => s
  | .tsOffset => s
  | .tsRawLo => s
  | .tsRawHi => s
  | .tsYear => s
  | .tsMon0 => s
  | .tsDate => s
  | .tsTime => s
  | .tsOutLo => s
  | .tsOutHi => s

end Sys2Proof.Machine
end

