-- ==== Sys2Proof/Machine/Bus.lean ====
section
/-! DEFINITION. The host bus (20_memory.md R62 to R69): the address map, one read, one write, and the reset pin
(70_reset_and_hazards.md R260). -/

namespace Sys2Proof.Machine

/-- What an address names (20_memory.md R69). -/
inductive Target where
  | reg (r : Reg)
  | window (index : Nat)
  | unmapped
  deriving DecidableEq, Repr

/-- The byte address of the window's word for RAM byte `i` (20_memory.md R62). -/
def windowAddr (i : Nat) : Nat := 0x010000 + 4 * i

/-- The address map for a frame RAM of `depth` bytes (20_memory.md R62, R66, R67, R69). A misaligned address names
nothing. -/
def decodeAddr (depth : Nat) (a : Addr) : Target :=
  if a.toNat % 4 ≠ 0 then .unmapped
  else if a.toNat < 0x001000 then
    match Reg.ofOffset a.toNat with
    | some r => .reg r
    | none => .unmapped
  else if a.toNat < 0x010000 then .unmapped
  else if (a.toNat - 0x010000) / 4 < depth then .window ((a.toNat - 0x010000) / 4)
  else .unmapped

/-- An accepted write to the window's word for RAM byte `i` (20_memory.md R63): bits [7:0] are stored, whatever
`buf_len` is, and the write is a buffer mutation. -/
def writeWindow (i : Nat) (w : Word) (s : State) : State :=
  mutateBuffer { s with ram := s.ram.write i (w.extractLsb' 0 8) }

/-- One host write (20_memory.md R63, R66 to R68). While `rst_n = 0` every access gets ERROR (R260). -/
def busWrite (a : Addr) (w : Word) (s : State) : State :=
  if s.rstN then
    match decodeAddr s.bufDepth a with
    | .reg r => reply (.wrote .okay) (writeReg r w s)
    | .window i => reply (.wrote .okay) (whenIdle s (writeWindow i w s))
    | .unmapped => reply (.wrote .error) s
  else reply (.wrote .error) s

/-- One host read (20_memory.md R64, R66 to R68). A window read of a byte nothing has written draws it (R61). -/
def busRead (a : Addr) (s : State) : State :=
  if s.rstN then
    match decodeAddr s.bufDepth a with
    | .reg r => reply (.read .okay (readReg r s)) s
    | .window i =>
      let b := readByte s.ram i s.draws
      reply (.read .okay (b.1.setWidth 32)) { s with draws := b.2 }
    | .unmapped => reply (.read .error 0) s
  else reply (.read .error 0) s

/-- A sample of the pin `rst_n` (70_reset_and_hazards.md R260, R261): low resets, and holds the machine reset until it
is sampled high. -/
def sampleRst (level : Bool) (s : State) : State :=
  if level then { s with rstN := true } else { resetElements s with rstN := false }

end Sys2Proof.Machine
end

