-- ==== Sys2Proof/Machine/Command.lean ====
section
/-! DEFINITION. The meanings of `NOP` and of the illegal command words (40_command_engine.md, 30_encoding.md R93). -/

namespace Sys2Proof.Machine

/-- `Exec_NOP()` (40_command_engine.md R131). -/
def nopVerdict (s : State) : Verdict := .success s

/-- `NOP` (40_command_engine.md R131). -/
def execNop (s : State) : Host.Outcome State Fault Refusal := commit .nop (nopVerdict s) s

/-- An illegal command word fails with its cause and `info` = the command word, which stands in `cmd`
(30_encoding.md R93, 40_command_engine.md R124; log 8). -/
def illegalVerdict (cause : Cause) (s : State) : Verdict := .fail cause s.cmd

/-- A reserved opcode, `RSV = 0` (30_encoding.md R93). -/
def execReservedOpcode (opcode : Byte) (s : State) : Host.Outcome State Fault Refusal :=
  commit (.reservedOpcode opcode) (illegalVerdict .reservedOpcode s) s

/-- Reserved bits not zero (30_encoding.md R93). -/
def execReservedBits (rsv : BitVec 24) (opcode : Byte) (s : State) : Host.Outcome State Fault Refusal :=
  commit (.reservedBits rsv opcode) (illegalVerdict .reservedBits s) s

end Sys2Proof.Machine
end

