-- ==== Sys2Proof/Machine/Header.lean ====
section
/-! DEFINITION. The meanings of `HDR_PARSE` and `HDR_VALIDATE`, and the header check they share with the packet commands
(42_header.md). -/

namespace Sys2Proof.Machine

/-- The header-size check of a parse at `off`: the buffer is shorter than `off + 24` (42_header.md R150, 43_packet.md
R180 step 1). -/
def headerTooShort (s : State) : Bool := decide (bufferLen s < offsetArg s + 24)

/-- `Exec_HDR_PARSE()` (42_header.md R150). -/
def hdrParseVerdict (s : State) : Verdict :=
  if headerTooShort s then .fail .dataSizeTooSmall (sat32 (offsetArg s + 24))
  else
    let h := memRead s.ram (offsetArg s) s.draws 24
    .success { s with
      hdrRaw := h.1, hdrOffset := s.argOffset, hdrLoaded := true, pktLoaded := false, draws := h.2 }

/-- `HDR_PARSE` (42_header.md R150). -/
def execHdrParse (s : State) : Host.Outcome State Fault Refusal := commit .hdrParse (hdrParseVerdict s) s

/-- The response codes that step 2 of the header check accepts (42_header.md R154). -/
def responseCodeOk (r : Byte) : Bool := r == 0x01#8 || r == 0x02#8 || r == 0x03#8 || r == 0xFE#8

/-- The encryption bytes that step 3 of the header check accepts (42_header.md R154). -/
def encryptionOk (e : Byte) : Bool := e == 0x01#8 || e == 0x02#8 || e == 0x03#8 || e == 0xFE#8 || e == 0xFF#8

/-- `HeaderCheck(h)` (42_header.md R152): `none` is `Ok`; otherwise the cause and info of the first check that fails, in
the order magic, response code, encryption, VIN (R156). -/
def headerCheck (h : Vector Byte 24) : Option (Cause × Word) :=
  if magicOf h ≠ 0x2323#16 then some (.magicInvalid, (magicOf h).setWidth 32)
  else if !responseCodeOk h[3] then some (.responseCodeInvalid, h[3].setWidth 32)
  else if !encryptionOk h[21] then some (.encryptionInvalid, h[21].setWidth 32)
  else if vinLength h < 17 then some (.vinLengthInvalid, BitVec.ofNat 32 (vinLength h))
  else none

/-- The verdict of a validation that has its header (42_header.md R153, 43_packet.md R183). -/
def checkVerdict (s : State) : Verdict :=
  match headerCheck s.hdrRaw with
  | none => .success s
  | some (cause, info) => .fail cause info

/-- `Exec_HDR_VALIDATE()` (42_header.md R153). -/
def hdrValidateVerdict (s : State) : Verdict :=
  if s.hdrLoaded then checkVerdict s else .fail .noHeader 0

/-- `HDR_VALIDATE` (42_header.md R153). -/
def execHdrValidate (s : State) : Host.Outcome State Fault Refusal := commit .hdrValidate (hdrValidateVerdict s) s

end Sys2Proof.Machine
end

