-- ==== Sys2Proof/Machine/Packet.lean ====
section
/-! DEFINITION. The meanings of `PKT_PARSE` and `PKT_VALIDATE` (43_packet.md). No command computes or compares a
checksum (R185), and none compares the declared length with the payload's (R184). -/

namespace Sys2Proof.Machine

/-- `plen = buf_len - off - 24 - 1`, an exact integer that may be negative (43_packet.md R180). -/
def payloadLen (s : State) : Int := (bufferLen s : Int) - (offsetArg s : Int) - 24 - 1

/-- `Exec_PKT_PARSE()` (43_packet.md R180): the header, then the payload view, then the buffer's last byte. -/
def pktParseVerdict (s : State) : Verdict :=
  if headerTooShort s then .fail .dataSizeTooSmall (sat32 (offsetArg s + 24))
  else
    let h := memRead s.ram (offsetArg s) s.draws 24
    if payloadLen s < 0 || !inBounds s (offsetArg s + 24) (payloadLen s).toNat then
      .fail .dataTooSmall (sat32 (offsetArg s + 25))
    else
      let c := readByte s.ram (bufferLen s - 1) h.2
      .success { s with
        hdrRaw := h.1, hdrOffset := s.argOffset,
        payOffset := BitVec.ofNat 32 (offsetArg s + 24), payLen := BitVec.ofInt 32 (payloadLen s),
        checksum := c.1, hdrLoaded := true, pktLoaded := true, draws := c.2 }

/-- `PKT_PARSE` (43_packet.md R180). -/
def execPktParse (s : State) : Host.Outcome State Fault Refusal := commit .pktParse (pktParseVerdict s) s

/-- `Exec_PKT_VALIDATE()` (43_packet.md R183). -/
def pktValidateVerdict (s : State) : Verdict :=
  if s.pktLoaded then checkVerdict s else .fail .noPacket 0

/-- `PKT_VALIDATE` (43_packet.md R183). -/
def execPktValidate (s : State) : Host.Outcome State Fault Refusal := commit .pktValidate (pktValidateVerdict s) s

end Sys2Proof.Machine
end

