-- ==== Sys2Proof/Machine/Timestamp.lean ====
section
/-! DEFINITION. The meanings of `TS_DECODE` and `TS_ENCODE` (44_timestamp.md). Neither checks a field's range, and
`INVALID_TIME` is never raised (R202). -/

namespace Sys2Proof.Machine

/-- `Exec_TS_DECODE()` (44_timestamp.md R200). -/
def tsDecodeVerdict (s : State) : Verdict :=
  if inBounds s (offsetArg s) 6 then
    let t := memRead s.ram (offsetArg s) s.draws 6
    .success { s with tsRaw := t.1, tsOffset := s.argOffset, tsLoaded := true, draws := t.2 }
  else .fail .dataTooSmall (sat32 (offsetArg s + 6))

/-- `TS_DECODE` (44_timestamp.md R200). -/
def execTsDecode (s : State) : Host.Outcome State Fault Refusal := commit .tsDecode (tsDecodeVerdict s) s

/-- The year byte `b0 = (enc_year - 2000) mod 256` (44_timestamp.md R210). -/
def yearByte (year : BitVec 16) : Byte := BitVec.ofInt 8 ((year.toNat : Int) - 2000)

/-- `Exec_TS_ENCODE()` (44_timestamp.md R210). -/
def tsEncodeVerdict (s : State) : Verdict :=
  .success { s with
    tsOut := #v[yearByte s.encYear, s.encMonth, s.encDay, s.encHour, s.encMinute, s.encSecond] }

/-- `TS_ENCODE` (44_timestamp.md R210). -/
def execTsEncode (s : State) : Host.Outcome State Fault Refusal := commit .tsEncode (tsEncodeVerdict s) s

end Sys2Proof.Machine
end

