-- ==== Sys2Proof/Machine/View.lean ====
section
/-! DEFINITION. The meaning of `VIEW` (41_view.md). -/

namespace Sys2Proof.Machine

/-- `Exec_VIEW()` (41_view.md R141). A view copies no byte (R142). -/
def viewVerdict (s : State) : Verdict :=
  if inBounds s (offsetArg s) (lengthArg s) then
    .success { s with viewOffset := s.argOffset, viewLen := s.argLength, viewLoaded := true }
  else .fail .dataTooSmall (sat32 (offsetArg s + lengthArg s))

/-- `VIEW` (41_view.md R141). -/
def execView (s : State) : Host.Outcome State Fault Refusal := commit .view (viewVerdict s) s

end Sys2Proof.Machine
end

