-- ==== Sys2Proof/Machine/Dispatch.lean ====
section
/-! DEFINITION. The dispatch of the completion step to the command's meaning (40_command_engine.md R124). -/

namespace Sys2Proof.Machine

def exec (i : Instr) (s : State) : Host.Outcome State Fault Refusal :=
  match i with
  | .nop => Sys2Proof.Machine.execNop s
  | .view => Sys2Proof.Machine.execView s
  | .hdrParse => Sys2Proof.Machine.execHdrParse s
  | .hdrValidate => Sys2Proof.Machine.execHdrValidate s
  | .pktParse => Sys2Proof.Machine.execPktParse s
  | .pktValidate => Sys2Proof.Machine.execPktValidate s
  | .tsDecode => Sys2Proof.Machine.execTsDecode s
  | .tsEncode => Sys2Proof.Machine.execTsEncode s
  | .reservedOpcode opcode => Sys2Proof.Machine.execReservedOpcode opcode s
  | .reservedBits rsv opcode => Sys2Proof.Machine.execReservedBits rsv opcode s

end Sys2Proof.Machine
end

