-- ==== Sys2Proof/Machine/Engine.lean ====
section
/-! DEFINITION. The command engine's completion step and when it is taken (40_command_engine.md R122, R124;
70_reset_and_hazards.md R276), and what each input of the environment does. -/

namespace Sys2Proof.Machine

/-- The completion step (40_command_engine.md R124): decode `cmd`, run the command, commit. -/
def complete (s : State) : Host.Outcome State Fault Refusal := exec (decode s.cmd) s

/-- The engine's step is enabled: a command is in flight (40_command_engine.md R122) and the block is not held in reset
(70_reset_and_hazards.md R260). -/
def engineEnabled (s : State) : Bool := s.rstN && s.busy

/-- The engine's turn (40_command_engine.md R122). An idle engine changes nothing (60_exceptions.md R247). -/
def engineTurn (s : State) : Host.Outcome State Fault Refusal :=
  if engineEnabled s then complete s else .next s

/-- A clock cycle without an access (70_reset_and_hazards.md R276; log 5): the command in flight completes in the cycle
in which it has waited `MAX_LATENCY`. -/
def clockCycle (s : State) : Host.Outcome State Fault Refusal :=
  if engineEnabled s then
    if s.waited + 1 < Config.maxLatency then .next { s with waited := s.waited + 1 } else complete s
  else .next s

/-- What one input of the environment does (00_scope.md R4, 20_memory.md R74, R75). -/
def takeInput (i : Input) (s : State) : Host.Outcome State Fault Refusal :=
  match i with
  | .write a w => .next (busWrite a w s)
  | .read a => .next (busRead a s)
  | .engine => engineTurn s
  | .clock => clockCycle s
  | .rst level => .next (sampleRst level s)

/-- One step of the machine: the next input, or, where the environment does nothing more, the engine's turn (weak
fairness, 40_command_engine.md R122; log 1). -/
def stepState (s : State) : Host.Outcome State Fault Refusal :=
  match s.inputs with
  | [] => engineTurn s
  | i :: rest => takeInput i { s with inputs := rest }

/-- The command word `w` issued and the engine's turn next: what a host write of `w` to `CMD` and the engine's
completion step do (40_command_engine.md R120, R122; log 2). -/
def placeCommand (w : Word) (s : State) : State :=
  { issue w s with rstN := true, inputs := .engine :: s.inputs }

end Sys2Proof.Machine
end

