-- ==== Sys2Proof/Machine/Step.lean ====
section
/-! DEFINITION. The step of the machine, and the host's way to place one command where the next step runs it. -/

namespace Sys2Proof.Machine

/-- One step of GBHP: one host access, one completion step, one reset sample or one clock cycle (00_scope.md R4). -/
def step (s : State) : Host.Outcome State Fault Refusal := stepState s

/-- The state with the command whose opcode-table bits are `w` in flight and about to complete (the host's fixed name;
log 2). The row gives `nbits` bits; every bit above them is 0. -/
def State.withFetchWord (s : State) (nbits w : Nat) : State := placeCommand (BitVec.ofNat 32 (w % 2 ^ nbits)) s

end Sys2Proof.Machine
end

