-- ==== Sys2Proof/Machine/Script.lean ====
section
/-! DEFINITION. The host-script notation (30_encoding.md R95, R96) as the lists of inputs it stands for. It is notation
of host programs, not hardware (D33): no step uses it. -/

namespace Sys2Proof.Machine

/-- The statements of 30_encoding.md R95. `wait` carries the number of polls the host makes before the engine's turn
comes, which the spec leaves open (log 10). -/
inductive Stmt where
  | wr (r : Reg) (v : Word)
  | rd (r : Reg)
  | wrb (i : Nat) (b : Byte)
  | rdb (i : Nat)
  | cmd (i : Instr)
  | wait (polls : Nat)
  deriving DecidableEq, Repr

/-- The bus access of a register. -/
def regAddr (r : Reg) : Addr := BitVec.ofNat 24 r.offset

/-- The bus accesses of a statement (30_encoding.md R95); a `wait` ends with the read that finds `BUSY = 0`. -/
def Stmt.inputs : Stmt → List Input
  | .wr r v => [.write (regAddr r) v]
  | .rd r => [.read (regAddr r)]
  | .wrb i b => [.write (BitVec.ofNat 24 (windowAddr i)) (b.setWidth 32)]
  | .rdb i => [.read (BitVec.ofNat 24 (windowAddr i))]
  | .cmd i => [.write (regAddr .cmd) (encode i)]
  | .wait polls => List.replicate polls (.read (regAddr .status)) ++ [.engine, .read (regAddr .status)]

/-- The pseudo-instructions of 30_encoding.md R96. -/
inductive Pseudo where
  | view (off len : Word)
  | view0 (len : Word)
  | hdrParse (off : Word)
  | hdrValidate
  | pktParse (off : Word)
  | pktParse0
  | pktValidate
  | tsDecode (off : Word)
  | tsEncode (year : BitVec 16) (month day hour minute second : Byte)
  | load (i : Nat) (bytes : List Byte)
  | setlen (n : Word)
  | ack
  deriving DecidableEq, Repr

/-- The word written to `ENC_DATE` by `ts_encode` (30_encoding.md R96). -/
def encDateWord (year : BitVec 16) (month day : Byte) : Word := day ++ month ++ year

/-- The word written to `ENC_TIME` by `ts_encode` (30_encoding.md R96). -/
def encTimeWord (hour minute second : Byte) : Word := 0#8 ++ second ++ minute ++ hour

/-- The `load` statements from index `i` on (30_encoding.md R96). -/
def loadFrom : Nat → List Byte → List Stmt
  | _, [] => []
  | i, b :: bs => .wrb i b :: loadFrom (i + 1) bs

/-- The expansions of 30_encoding.md R96, each `wait` making `polls` polls. -/
def Pseudo.expand (polls : Nat) : Pseudo → List Stmt
  | .view off len => [.wr .argOffset off, .wr .argLength len, .cmd .view, .wait polls]
  | .view0 len => [.wr .argOffset 0, .wr .argLength len, .cmd .view, .wait polls]
  | .hdrParse off => [.wr .argOffset off, .cmd .hdrParse, .wait polls]
  | .hdrValidate => [.cmd .hdrValidate, .wait polls]
  | .pktParse off => [.wr .argOffset off, .cmd .pktParse, .wait polls]
  | .pktParse0 => [.wr .argOffset 0, .cmd .pktParse, .wait polls]
  | .pktValidate => [.cmd .pktValidate, .wait polls]
  | .tsDecode off => [.wr .argOffset off, .cmd .tsDecode, .wait polls]
  | .tsEncode year month day hour minute second =>
    [.wr .encDate (encDateWord year month day), .wr .encTime (encTimeWord hour minute second), .cmd .tsEncode, .wait polls]
  | .load i bytes => loadFrom i bytes
  | .setlen n => [.wr .bufLen n]
  | .ack => [.wr .status 0x00000202]

/-- The inputs of a host program (30_encoding.md R95, R96). -/
def scriptInputs (polls : Nat) (program : List Pseudo) : List Input :=
  (program.flatMap (Pseudo.expand polls)).flatMap Stmt.inputs

end Sys2Proof.Machine
end

