-- ==== Sys2Proof/Safety.lean ====
section
/-! DEFINITION. What a safe state of GBHP is, in the terms the statements use: the invariants of the spec's prose. Each
is a property of one state, and the statements say that every step keeps it. -/

namespace Sys2Proof.Machine

/-- `BUF_DEPTH` is legal (00_scope.md R7), and the buffer fits the frame RAM: `buf_len <= BUF_DEPTH` (10_state.md R20,
R32). -/
def bufferFits (s : State) : Prop :=
  Config.bufDepthMin ≤ s.bufDepth ∧ s.bufDepth ≤ Config.bufDepthMax ∧ s.bufLen.toNat ≤ s.bufDepth

/-- The frame RAM is in canonical form and lists only bytes that exist (20_memory.md R60). -/
def ramWellFormed (s : State) : Prop :=
  s.ram.wf ∧ ∀ c ∈ s.ram, c.1 < s.bufDepth

/-- The pairs of `ERR_KIND` and `ERR_CAUSE` numbers that a failure produces (60_exceptions.md R232). -/
def errorPairs : List (BitVec 4 × BitVec 8) :=
  [(1, 0x01), (2, 0x01), (2, 0x02), (2, 0x03), (2, 0x04), (2, 0x05), (4, 0x01), (4, 0x02), (4, 0x03), (4, 0x04)]

/-- The error registers hold zeros, or a pair of 60_exceptions.md R232. -/
def errorPairLegal (s : State) : Prop :=
  (s.errKind = 0 ∧ s.errCause = 0 ∧ s.errInfo = 0) ∨ (s.errKind, s.errCause) ∈ errorPairs

/-- The handshake's flags: `done` is 0 while a command is in flight (40_command_engine.md R120, R125), and `valid` only
stands with no error recorded (10_state.md R28, R30). -/
def handshakeConsistent (s : State) : Prop :=
  (s.busy = true → s.done = false) ∧ (s.valid = true → s.errKind = 0 ∧ s.errCause = 0 ∧ s.errInfo = 0)

/-- Every live view lies inside the buffer: the invariant of 41_view.md R140, for each group that is loaded
(10_state.md R27), and the payload length law of 43_packet.md R181. -/
def liveViewsInBounds (s : State) : Prop :=
  (s.viewLoaded = true → s.viewOffset.toNat + s.viewLen.toNat ≤ s.bufLen.toNat) ∧
  (s.hdrLoaded = true → s.hdrOffset.toNat + 24 ≤ s.bufLen.toNat) ∧
  (s.tsLoaded = true → s.tsOffset.toNat + 6 ≤ s.bufLen.toNat) ∧
  (s.pktLoaded = true →
    s.hdrLoaded = true ∧ s.payOffset.toNat = s.hdrOffset.toNat + 24 ∧
      s.payOffset.toNat + s.payLen.toNat + 1 = s.bufLen.toNat)

/-- Every latched byte of a live group is the RAM byte it was taken from, where that byte has been written
(10_state.md R38, R52; 70_reset_and_hazards.md R271). -/
def latchesMatchRam (s : State) : Prop :=
  (s.hdrLoaded = true → ∀ k : Fin 24, ∀ b, s.ram.read? (s.hdrOffset.toNat + k) = some b → s.hdrRaw[k] = b) ∧
  (s.tsLoaded = true → ∀ k : Fin 6, ∀ b, s.ram.read? (s.tsOffset.toNat + k) = some b → s.tsRaw[k] = b) ∧
  (s.pktLoaded = true → ∀ b, s.ram.read? (s.bufLen.toNat - 1) = some b → s.checksum = b)

/-- While `rst_n = 0` the machine holds every element but `RAM` at its reset value (70_reset_and_hazards.md R260). -/
def heldInReset (s : State) : Prop := s.rstN = false → resetElements s = s

/-- The command in flight has waited less than `MAX_LATENCY` cycles (70_reset_and_hazards.md R276). -/
def latencyBounded (s : State) : Prop := s.busy = true → s.waited < Config.maxLatency

/-- `P` is kept by every step, whatever the environment does. -/
def KeptByStep (P : State → Prop) : Prop := ∀ s t : State, P s → step s = .next t → P t

end Sys2Proof.Machine
end

