-- ==== Sys2Proof/Certificates/Slice0/Obligations.lean ====
section
/-! DEFINITION. The statements about GBHP for the provers. A next state is written as the old one with the fields that
change, so that each such equation is at once the result, the frame and the completion of the command. -/

open Sys2Proof Sys2Proof.Machine

/-- The completion of a command that succeeds, with `valid` at `v` (40_command_engine.md R125). -/
def Sys2Proof.Claims.succeeded (v : Bool) (s : State) : State :=
  { s with
    errKind := 0x0#4, errCause := 0x00#8, errInfo := 0x00000000#32, valid := v, busy := false, done := true }

/-- The completion of a command that fails, but for the loaded flags (40_command_engine.md R126). -/
def Sys2Proof.Claims.failed (kind : BitVec 4) (cause : BitVec 8) (info : Word) (s : State) : State :=
  { s with errKind := kind, errCause := cause, errInfo := info, valid := false, busy := false, done := true }

/-- `sat32` of an exact sum (00_scope.md R9), written out. -/
def Sys2Proof.Claims.saturated (x : Nat) : Word := if x ≤ 4294967295 then BitVec.ofNat 32 x else 0xFFFFFFFF#32

/-- The next input is one at which the engine may complete the command in flight (40_command_engine.md R122). -/
def Sys2Proof.Claims.completionStep (s : State) : Prop :=
  s.rstN = true ∧ s.busy = true ∧
    (s.inputs = [] ∨ (∃ rest, s.inputs = .engine :: rest) ∨ (∃ rest, s.inputs = .clock :: rest))

/-- The step from `s` to `t` completes the command in flight (40_command_engine.md R124): the engine may complete it, and
afterwards none is in flight. A clock cycle that only waits is no such step. -/
def Sys2Proof.Claims.completes (s t : State) : Prop :=
  Sys2Proof.Claims.completionStep s ∧ t.busy = false ∧ t.done = true

/-- The next input resets the machine: the pin sampled low, or a soft reset (70_reset_and_hazards.md R260). -/
def Sys2Proof.Claims.resetStep (s : State) : Prop :=
  (∃ rest, s.inputs = .rst false :: rest) ∨
    (∃ w rest, s.inputs = .write 0x000004#24 w :: rest ∧ s.rstN = true ∧ w[1] = true)

/-- The next input is a buffer mutation: an accepted write to `BUF_LEN` or to the frame RAM window
(20_memory.md R65). -/
def Sys2Proof.Claims.mutationStep (s : State) : Prop :=
  ∃ a w rest, s.inputs = .write a w :: rest ∧ s.rstN = true ∧ s.busy = false ∧
    (a = 0x000010#24 ∨ ∃ i, i < s.bufDepth ∧ a.toNat = 0x010000 + 4 * i)

/-- Two states show the same results of the last command: error registers, `valid`, loaded flags and every result
register. -/
def Sys2Proof.Claims.sameResults (t u : State) : Prop :=
  t.errKind = u.errKind ∧ t.errCause = u.errCause ∧ t.errInfo = u.errInfo ∧ t.valid = u.valid ∧
  t.hdrLoaded = u.hdrLoaded ∧ t.pktLoaded = u.pktLoaded ∧ t.tsLoaded = u.tsLoaded ∧ t.viewLoaded = u.viewLoaded ∧
  t.hdrRaw = u.hdrRaw ∧ t.hdrOffset = u.hdrOffset ∧ t.payOffset = u.payOffset ∧ t.payLen = u.payLen ∧
  t.checksum = u.checksum ∧ t.viewOffset = u.viewOffset ∧ t.viewLen = u.viewLen ∧ t.tsRaw = u.tsRaw ∧
  t.tsOffset = u.tsOffset ∧ t.tsOut = u.tsOut

/-- The reset column of the register table (10_state.md R23), for a frame RAM of `depth` bytes. -/
def Sys2Proof.Claims.resetColumn (depth : Nat) (r : Reg) : Word :=
  if r = .id then 0x32393630#32
  else if r = .bufDepth then BitVec.ofNat 32 depth
  else if r = .hdrCodes then 0x07000700#32
  else if r = .tsYear then 0x00000064#32
  else if r = .tsMon0 then 0xFFFFFFFF#32
  else 0x00000000#32

/-- The cause codes that 60_exceptions.md R232 gives the four header checks. -/
def Sys2Proof.Claims.headerCauses : List (Cause × BitVec 8) :=
  [(.magicInvalid, 0x02), (.responseCodeInvalid, 0x03), (.encryptionInvalid, 0x04), (.vinLengthInvalid, 0x05)]

/-- The offset and access columns of the register table (10_state.md R23). -/
def Sys2Proof.Claims.registerTable : List (Reg × Nat × Access) :=
  [(.id, 0x000, .ro), (.ctrl, 0x004, .rwWo), (.status, 0x008, .roW1c), (.cmd, 0x00C, .rw), (.bufLen, 0x010, .rw),
   (.argOffset, 0x014, .rw), (.argLength, 0x018, .rw), (.errInfo, 0x01C, .ro), (.encDate, 0x020, .rw),
   (.encTime, 0x024, .rw), (.bufDepth, 0x028, .ro), (.hdrOffset, 0x040, .ro), (.hdrMagic, 0x044, .ro),
   (.hdrCodes, 0x048, .ro), (.hdrEnc, 0x04C, .ro), (.hdrVin0, 0x050, .ro), (.hdrVin1, 0x054, .ro),
   (.hdrVin2, 0x058, .ro), (.hdrVin3, 0x05C, .ro), (.hdrVin4, 0x060, .ro), (.hdrVinLen, 0x064, .ro),
   (.pktPayOffset, 0x070, .ro), (.pktPayLen, 0x074, .ro), (.pktChecksum, 0x078, .ro), (.viewOffset, 0x080, .ro),
   (.viewLen, 0x084, .ro), (.tsOffset, 0x090, .ro), (.tsRawLo, 0x094, .ro), (.tsRawHi, 0x098, .ro),
   (.tsYear, 0x09C, .ro), (.tsMon0, 0x0A0, .ro), (.tsDate, 0x0A4, .ro), (.tsTime, 0x0A8, .ro), (.tsOutLo, 0x0B0, .ro),
   (.tsOutHi, 0x0B4, .ro)]

open Sys2Proof.Claims

/-! ## Encoding and decoding -/

/-- Decoding the encoded word of any well-formed instruction, whatever the values of its reserved fields, gives the
instruction back. -/
def Obligations.DecodeEncodeRoundTrip : Prop :=
  ∀ i : Instr, i.wellFormed = true → decode (encode i) = i

/-- Every 32-bit word decodes to a well-formed instruction whose encoding is that word, so no word has two meanings and
none is left out. -/
def Obligations.EncodeDecodeRoundTrip : Prop :=
  ∀ w : Word, (decode w).wellFormed = true ∧ encode (decode w) = w

/-- Decoding is total and follows the map of R94: a word with w[31:8] not 0 is the illegal word RESERVED_BITS, a word 0
to 7 is the command of that opcode, and a word 8 to 255 is the illegal word RESERVED_OPCODE. -/
def Obligations.DecodeFollowsTheOpcodeMap : Prop :=
  ∀ w : Word,
    (256 ≤ w.toNat → decode w = .reservedBits (BitVec.ofNat 24 (w.toNat / 256)) (BitVec.ofNat 8 w.toNat)) ∧
    (w.toNat ≤ 7 →
      [Instr.nop, .view, .hdrParse, .hdrValidate, .pktParse, .pktValidate, .tsDecode, .tsEncode][w.toNat]? =
        some (decode w)) ∧
    (8 ≤ w.toNat → w.toNat ≤ 255 → decode w = .reservedOpcode (BitVec.ofNat 8 w.toNat))

/-- The words 0x00000000 to 0x00000007 decode to the eight commands in the order of the opcode map, 0x00000008 and
0x000000FF to reserved opcodes, 0x00000107 and 0x80000003 to words with reserved bits. -/
def Obligations.SampleCommandWordsDecode : Prop :=
  decode 0x00000000#32 = .nop ∧ decode 0x00000001#32 = .view ∧ decode 0x00000002#32 = .hdrParse ∧
  decode 0x00000003#32 = .hdrValidate ∧ decode 0x00000004#32 = .pktParse ∧ decode 0x00000005#32 = .pktValidate ∧
  decode 0x00000006#32 = .tsDecode ∧ decode 0x00000007#32 = .tsEncode ∧
  decode 0x00000008#32 = .reservedOpcode 0x08#8 ∧ decode 0x000000FF#32 = .reservedOpcode 0xFF#8 ∧
  decode 0x00000107#32 = .reservedBits 0x000001#24 0x07#8 ∧ decode 0x80000003#32 = .reservedBits 0x800000#24 0x03#8

/-- When a command is in flight, the block is out of reset and it is the engine's turn, one step runs the instruction
that the command word decodes to; the schedule moves past the engine's turn. That the environment is a schedule in the
state, and that an empty one gives the engine its turn, is the model's choice of log 1. -/
def Obligations.StepRunsTheCommandInFlight : Prop :=
  ∀ (s : State) (i : Instr), s.rstN = true → s.busy = true → decode s.cmd = i → i.wellFormed = true →
    (∀ rest, s.inputs = .engine :: rest → step s = exec i { s with inputs := rest }) ∧
    (s.inputs = [] → step s = exec i s)

/-- The model's choice of logs 1 and 2: placing a command word makes the very next step run it, as a command just
issued; and a host write of the word to CMD followed by the engine's turn runs it in two steps. -/
def Obligations.PlacedCommandRunsNext : Prop :=
  (∀ (s : State) (n : Nat), n < 2 ^ 32 →
    step (s.withFetchWord 32 n) =
      exec (decode (BitVec.ofNat 32 n))
        { s with cmd := BitVec.ofNat 32 n, busy := true, done := false, waited := 0, rstN := true }) ∧
  (∀ (s : State) (w : Word) (rest : List Input), s.rstN = true → s.busy = false →
    s.inputs = .write 0x00000C#24 w :: .engine :: rest →
    Host.Core.run Sys2Proof.core 2 s =
      exec (decode w)
        { s with cmd := w, busy := true, done := false, waited := 0, bus := .wrote .okay, inputs := rest })

/-! ## The commands -/

/-- NOP, word 0, always completes: it clears the error registers and valid, clears busy, sets done and changes nothing
else; issued from reset it leaves STATUS = 0x00000002. -/
def Obligations.NopCompletes : Prop :=
  encode .nop = 0x00000000#32 ∧
  (∀ s : State, exec .nop s = .next (succeeded false s)) ∧
  (∃ t, exec .nop (issue 0x00000000#32 State.reset) = .next t ∧ readReg .status t = 0x00000002#32)

/-- VIEW, word 1, always completes: if arg_offset + arg_length (exact) is at most buf_len it writes view_offset and
view_len and sets view_loaded; otherwise it fails with INVALID_DATA, DATA_TOO_SMALL and the saturated sum, clearing
view_loaded. Nothing else changes. -/
def Obligations.ViewResult : Prop :=
  encode .view = 0x00000001#32 ∧
  ∀ s : State,
    (s.argOffset.toNat + s.argLength.toNat ≤ s.bufLen.toNat →
      exec .view s =
        .next (succeeded false { s with viewOffset := s.argOffset, viewLen := s.argLength, viewLoaded := true })) ∧
    (s.bufLen.toNat < s.argOffset.toNat + s.argLength.toNat →
      exec .view s =
        .next (failed 1 0x01 (saturated (s.argOffset.toNat + s.argLength.toNat)) { s with viewLoaded := false }))

/-- HDR_PARSE, word 2, always completes: if arg_offset + 24 is at most buf_len it latches 24 bytes (each the RAM byte
where one has been written), writes hdr_offset, sets hdr_loaded and clears pkt_loaded; otherwise it fails with
INVALID_HEADER, DATA_SIZE_TOO_SMALL and the saturated sum, clearing both flags. Nothing else changes but the model's own
count of undefined bytes drawn, of which this says nothing. -/
def Obligations.HdrParseResult : Prop :=
  encode .hdrParse = 0x00000002#32 ∧
  ∀ s : State,
    (s.argOffset.toNat + 24 ≤ s.bufLen.toNat →
      ∃ (h : Vector Byte 24) (d : Nat),
        exec .hdrParse s =
          .next (succeeded false { s with
            hdrRaw := h, hdrOffset := s.argOffset, hdrLoaded := true, pktLoaded := false, draws := d }) ∧
        ∀ k : Fin 24, ∀ b, s.ram.read? (s.argOffset.toNat + k) = some b → h[k] = b) ∧
    (s.bufLen.toNat < s.argOffset.toNat + 24 →
      exec .hdrParse s =
        .next (failed 2 0x01 (saturated (s.argOffset.toNat + 24)) { s with hdrLoaded := false, pktLoaded := false }))

/-- HDR_VALIDATE, word 3, always completes: with no header loaded it fails with ILLEGAL_COMMAND, NO_HEADER, 0;
otherwise it succeeds with valid = 1 when HeaderCheck passes the latched bytes, and fails with INVALID_HEADER (2), the
failing check's cause (0x02 magic, 0x03 response code, 0x04 encryption, 0x05 VIN) and its info when it does not. No loaded flag and nothing else changes. -/
def Obligations.HdrValidateResult : Prop :=
  encode .hdrValidate = 0x00000003#32 ∧
  ∀ s : State,
    (s.hdrLoaded = false → exec .hdrValidate s = .next (failed 4 0x03 0 s)) ∧
    (s.hdrLoaded = true → headerCheck s.hdrRaw = none → exec .hdrValidate s = .next (succeeded true s)) ∧
    (s.hdrLoaded = true → ∀ c info, headerCheck s.hdrRaw = some (c, info) →
      ∃ n, (c, n) ∈ headerCauses ∧ exec .hdrValidate s = .next (failed 2 n info s))

/-- PKT_PARSE, word 4, always completes. If buf_len < arg_offset + 24 it fails with INVALID_HEADER,
DATA_SIZE_TOO_SMALL; if buf_len = arg_offset + 24 it fails with INVALID_DATA, DATA_TOO_SMALL and the saturated
arg_offset + 25; either failure clears hdr_loaded and pkt_loaded. Otherwise it latches the 24 header bytes at
arg_offset, writes the payload view (arg_offset + 24, buf_len - arg_offset - 25) and the last buffer byte as checksum,
and sets both flags. Nothing else changes but the model's own count of undefined bytes drawn, of which this says
nothing. -/
def Obligations.PktParseResult : Prop :=
  encode .pktParse = 0x00000004#32 ∧
  ∀ s : State,
    (s.bufLen.toNat < s.argOffset.toNat + 24 →
      exec .pktParse s =
        .next (failed 2 0x01 (saturated (s.argOffset.toNat + 24)) { s with hdrLoaded := false, pktLoaded := false })) ∧
    (s.bufLen.toNat = s.argOffset.toNat + 24 →
      exec .pktParse s =
        .next (failed 1 0x01 (saturated (s.argOffset.toNat + 25)) { s with hdrLoaded := false, pktLoaded := false })) ∧
    (s.argOffset.toNat + 25 ≤ s.bufLen.toNat →
      ∃ (h : Vector Byte 24) (c : Byte) (d : Nat),
        exec .pktParse s =
          .next (succeeded false { s with
            hdrRaw := h, hdrOffset := s.argOffset, payOffset := BitVec.ofNat 32 (s.argOffset.toNat + 24),
            payLen := BitVec.ofNat 32 (s.bufLen.toNat - s.argOffset.toNat - 25), checksum := c,
            hdrLoaded := true, pktLoaded := true, draws := d }) ∧
        (∀ k : Fin 24, ∀ b, s.ram.read? (s.argOffset.toNat + k) = some b → h[k] = b) ∧
        (∀ b, s.ram.read? (s.bufLen.toNat - 1) = some b → c = b))

/-- PKT_VALIDATE, word 5, always completes: with no packet loaded it fails with ILLEGAL_COMMAND, NO_PACKET, 0;
otherwise it succeeds with valid = 1 when HeaderCheck passes the latched bytes, and fails with INVALID_HEADER (2), the
failing check's cause (0x02 magic, 0x03 response code, 0x04 encryption, 0x05 VIN) and its info when it does not. No loaded flag and nothing else changes. -/
def Obligations.PktValidateResult : Prop :=
  encode .pktValidate = 0x00000005#32 ∧
  ∀ s : State,
    (s.pktLoaded = false → exec .pktValidate s = .next (failed 4 0x04 0 s)) ∧
    (s.pktLoaded = true → headerCheck s.hdrRaw = none → exec .pktValidate s = .next (succeeded true s)) ∧
    (s.pktLoaded = true → ∀ c info, headerCheck s.hdrRaw = some (c, info) →
      ∃ n, (c, n) ∈ headerCauses ∧ exec .pktValidate s = .next (failed 2 n info s))

/-- TS_DECODE, word 6, always completes: if arg_offset + 6 is at most buf_len it latches 6 bytes (each the RAM byte
where one has been written), writes ts_offset and sets ts_loaded; otherwise it fails with INVALID_DATA, DATA_TOO_SMALL
and the saturated sum, clearing ts_loaded. Nothing else changes but the model's own count of undefined bytes drawn, of
which this says nothing. -/
def Obligations.TsDecodeResult : Prop :=
  encode .tsDecode = 0x00000006#32 ∧
  ∀ s : State,
    (s.argOffset.toNat + 6 ≤ s.bufLen.toNat →
      ∃ (t : Vector Byte 6) (d : Nat),
        exec .tsDecode s =
          .next (succeeded false { s with
            tsRaw := t, tsOffset := s.argOffset, tsLoaded := true, draws := d }) ∧
        ∀ k : Fin 6, ∀ b, s.ram.read? (s.argOffset.toNat + k) = some b → t[k] = b) ∧
    (s.bufLen.toNat < s.argOffset.toNat + 6 →
      exec .tsDecode s =
        .next (failed 1 0x01 (saturated (s.argOffset.toNat + 6)) { s with tsLoaded := false }))

/-- TS_ENCODE, word 7, always succeeds: ts_out becomes the byte (enc_year - 2000) mod 256 followed by enc_month,
enc_day, enc_hour, enc_minute and enc_second; nothing else changes but the completion. -/
def Obligations.TsEncodeResult : Prop :=
  encode .tsEncode = 0x00000007#32 ∧
  ∀ s : State, ∃ b0 : Byte,
    exec .tsEncode s =
      .next (succeeded false { s with
        tsOut := #v[b0, s.encMonth, s.encDay, s.encHour, s.encMinute, s.encSecond] }) ∧
    (b0.toNat : Int) = ((s.encYear.toNat : Int) - 2000) % 256

/-- A word with reserved bits completes with ILLEGAL_COMMAND, RESERVED_BITS, and a reserved opcode with
ILLEGAL_COMMAND, RESERVED_OPCODE, info being the command word; nothing changes but the completion state. This holds of
the two illegal instructions and of the completion of any such word in CMD, and every word is a legal command or one of
the two. -/
def Obligations.IllegalWordsComplete : Prop :=
  (∀ (s : State) (rsv : BitVec 24) (op : Byte), exec (.reservedBits rsv op) s = .next (failed 4 0x01 s.cmd s)) ∧
  (∀ (s : State) (op : Byte), exec (.reservedOpcode op) s = .next (failed 4 0x02 s.cmd s)) ∧
  (∀ s : State, 256 ≤ s.cmd.toNat → complete s = .next (failed 4 0x01 s.cmd s)) ∧
  (∀ s : State, 8 ≤ s.cmd.toNat → s.cmd.toNat ≤ 255 → complete s = .next (failed 4 0x02 s.cmd s)) ∧
  (∀ w : Word, w.toNat ≤ 7 ↔ (∀ rsv op, decode w ≠ .reservedBits rsv op) ∧ ∀ op, decode w ≠ .reservedOpcode op)

/-! ## The header check -/

/-- HeaderCheck reports the first failing check in the order magic, response code, encryption, VIN, with the kind
INVALID_HEADER (2), the check's own cause (0x02, 0x03, 0x04, 0x05 in that order), and as info the magic, the response byte, the encryption byte or the index of
the first NUL of the VIN; with no failing check it passes. -/
def Obligations.HeaderCheckReportsFirstFailure : Prop :=
  ∀ h : Vector Byte 24,
    (h[0].toNat * 256 + h[1].toNat ≠ 0x2323 →
      headerCheck h = some (.magicInvalid, BitVec.ofNat 32 (h[0].toNat * 256 + h[1].toNat))) ∧
    (h[0].toNat * 256 + h[1].toNat = 0x2323 →
      (h[3] ∉ [0x01#8, 0x02#8, 0x03#8, 0xFE#8] →
        headerCheck h = some (.responseCodeInvalid, BitVec.ofNat 32 h[3].toNat)) ∧
      (h[3] ∈ [0x01#8, 0x02#8, 0x03#8, 0xFE#8] →
        (h[21] ∉ [0x01#8, 0x02#8, 0x03#8, 0xFE#8, 0xFF#8] →
          headerCheck h = some (.encryptionInvalid, BitVec.ofNat 32 h[21].toNat)) ∧
        (h[21] ∈ [0x01#8, 0x02#8, 0x03#8, 0xFE#8, 0xFF#8] →
          (∀ j : Fin 17, h[4 + j.val] = 0x00#8 → (∀ k : Fin 17, k < j → h[4 + k.val] ≠ 0x00#8) →
            headerCheck h = some (.vinLengthInvalid, BitVec.ofNat 32 j)) ∧
          ((∀ j : Fin 17, h[4 + j.val] ≠ 0x00#8) → headerCheck h = none)))) ∧
    (∀ c info, headerCheck h = some (c, info) → c.kind.code = 2 ∧ (c, c.code) ∈ headerCauses)

/-- HeaderCheck passes a header if and only if its magic is 0x2323, its response code is in {1, 2, 3, 0xFE}, its
encryption byte is in {1, 2, 3, 0xFE, 0xFF} and no VIN byte is 0. -/
def Obligations.HeaderCheckCharacterised : Prop :=
  ∀ h : Vector Byte 24,
    headerCheck h = none ↔
      h[0].toNat * 256 + h[1].toNat = 0x2323 ∧ h[3] ∈ [0x01#8, 0x02#8, 0x03#8, 0xFE#8] ∧
      h[21] ∈ [0x01#8, 0x02#8, 0x03#8, 0xFE#8, 0xFF#8] ∧ ∀ j : Fin 17, h[4 + j.val] ≠ 0x00#8

/-- A validation looks at nothing but its loaded flag and the latched header bytes: two states that agree on these get
the same valid, error kind, cause and info, whatever their RAM, checksum, payload length, frame RAM size and error
registers are. -/
def Obligations.ValidationIgnoresEverythingElse : Prop :=
  ∀ s u : State, s.hdrRaw = u.hdrRaw →
    (s.hdrLoaded = u.hdrLoaded →
      ∃ t v, exec .hdrValidate s = .next t ∧ exec .hdrValidate u = .next v ∧ t.valid = v.valid ∧
        t.errKind = v.errKind ∧ t.errCause = v.errCause ∧ t.errInfo = v.errInfo) ∧
    (s.pktLoaded = u.pktLoaded →
      ∃ t v, exec .pktValidate s = .next t ∧ exec .pktValidate u = .next v ∧ t.valid = v.valid ∧
        t.errKind = v.errKind ∧ t.errCause = v.errCause ∧ t.errInfo = v.errInfo)

/-! ## Packet and timestamp laws -/

/-- A PKT_PARSE that succeeds leaves pay_len = buf_len - off - 25 and pay_offset + pay_len = buf_len - 1, as exact
integers. -/
def Obligations.PayloadLengthLaw : Prop :=
  ∀ s t : State, exec .pktParse s = .next t → t.errKind = 0 →
    (t.payLen.toNat : Int) = (t.bufLen.toNat : Int) - (s.argOffset.toNat : Int) - 25 ∧
    (t.payOffset.toNat : Int) + (t.payLen.toNat : Int) = (t.bufLen.toNat : Int) - 1

/-- After a PKT_PARSE that succeeds, checksum is the written RAM byte at buf_len - 1, and PKT_CHECKSUM shows it in bits
[7:0] below zeros, whatever the declared data length is. -/
def Obligations.ChecksumIsTheLastByte : Prop :=
  ∀ (s t : State) (b : Byte), exec .pktParse s = .next t → t.errKind = 0 →
    s.ram.read? (s.bufLen.toNat - 1) = some b → t.checksum = b ∧ readReg .pktChecksum t = BitVec.ofNat 32 b.toNat

/-- Encoding calendar fields and decoding the six bytes from the RAM gives back month, day, hour, minute and second
exactly, and the year as Y - 1900 for Y in 1872..2127, otherwise 100 + s8((Y - 2000) mod 256). -/
def Obligations.TimestampRoundTrip : Prop :=
  ∀ s : State, ∃ t, exec .tsEncode s = .next t ∧
    ∀ u : State, u.argOffset.toNat + 6 ≤ u.bufLen.toNat →
      (∀ k : Fin 6, u.ram.read? (u.argOffset.toNat + k) = some t.tsOut[k]) →
      ∃ v, exec .tsDecode u = .next v ∧ v.tsLoaded = true ∧
        (1872 ≤ s.encYear.toNat → s.encYear.toNat ≤ 2127 →
          (readReg .tsYear v).toInt = (s.encYear.toNat : Int) - 1900) ∧
        (readReg .tsYear v).toInt = 100 + (BitVec.ofInt 8 ((s.encYear.toNat : Int) - 2000)).toInt ∧
        (readReg .tsDate v).toNat = s.encDay.toNat * 256 + s.encMonth.toNat ∧
        (readReg .tsTime v).toNat = s.encSecond.toNat * 65536 + s.encMinute.toNat * 256 + s.encHour.toNat ∧
        (readReg .tsMon0 v).toInt = (s.encMonth.toNat : Int) - 1

/-! ## Completion in general -/

/-- Every command, legal or not, completes from every state: busy is 0 and done is 1 afterwards, and the error registers
hold zeros or one of the ten pairs of kind and cause numbers of R232; kind INVALID_TIME (3) is never among them. -/
def Obligations.EveryCommandCompletes : Prop :=
  ∀ (i : Instr) (s : State), ∃ t, exec i s = .next t ∧ t.busy = false ∧ t.done = true ∧ errorPairLegal t ∧
    t.errKind ≠ 3

/-- At every completion valid becomes 1 if the command was HDR_VALIDATE or PKT_VALIDATE and succeeded, and 0 otherwise;
reset clears it, and a buffer mutation (an accepted BUF_LEN or window write) keeps it. -/
def Obligations.ValidOnlyAfterAPassedValidation : Prop :=
  (∀ (i : Instr) (s t : State), exec i s = .next t →
    (t.valid = true ↔ (i = .hdrValidate ∨ i = .pktValidate) ∧ t.errKind = 0)) ∧
  (∀ s : State, (resetElements s).valid = false) ∧
  (∀ (s : State) (w : Word) (i : Nat), (writeBufLen w s).valid = s.valid ∧ (writeWindow i w s).valid = s.valid)

/-- A failure writes no result register: the next state is the old one with the error registers, valid = 0, busy = 0,
done = 1, and the loaded flags that R126 names for the command cleared. -/
def Obligations.FailureWritesNoResult : Prop :=
  ∀ (i : Instr) (s t : State), exec i s = .next t → t.errKind ≠ 0 →
    t = failed t.errKind t.errCause t.errInfo { s with
      viewLoaded := s.viewLoaded && decide (i ≠ .view)
      hdrLoaded := s.hdrLoaded && decide (i ≠ .hdrParse ∧ i ≠ .pktParse)
      pktLoaded := s.pktLoaded && decide (i ≠ .hdrParse ∧ i ≠ .pktParse)
      tsLoaded := s.tsLoaded && decide (i ≠ .tsDecode) }

/-- A success commits the error registers at zero, valid for the two validations only, busy = 0 and done = 1. -/
def Obligations.SuccessCommitsCleanErrors : Prop :=
  ∀ (i : Instr) (s t : State), exec i s = .next t → t.errKind = 0 →
    t = succeeded (decide (i = .hdrValidate ∨ i = .pktValidate)) t

/-- The frame of every command: no command changes the RAM, an operand register, cmd, irq_en, wr_busy, the pin, the bus
reply or the schedule, and each result group and its loaded flag changes only by the commands that R127 lists for it. -/
def Obligations.CommandsWriteOnlyTheirGroup : Prop :=
  ∀ (i : Instr) (s t : State), exec i s = .next t →
    (t.ram = s.ram ∧ (∀ a, t.ram.read? a = s.ram.read? a) ∧ t.bufDepth = s.bufDepth ∧ t.irqEn = s.irqEn ∧
      t.wrBusy = s.wrBusy ∧ t.cmd = s.cmd ∧ t.bufLen = s.bufLen ∧ t.argOffset = s.argOffset ∧
      t.argLength = s.argLength ∧ t.encYear = s.encYear ∧ t.encMonth = s.encMonth ∧ t.encDay = s.encDay ∧
      t.encHour = s.encHour ∧ t.encMinute = s.encMinute ∧ t.encSecond = s.encSecond ∧ t.rstN = s.rstN ∧
      t.bus = s.bus ∧ t.inputs = s.inputs ∧ t.waited = s.waited) ∧
    (i ≠ .hdrParse → i ≠ .pktParse →
      t.hdrRaw = s.hdrRaw ∧ t.hdrOffset = s.hdrOffset ∧ t.hdrLoaded = s.hdrLoaded ∧ t.pktLoaded = s.pktLoaded) ∧
    (i ≠ .pktParse → t.payOffset = s.payOffset ∧ t.payLen = s.payLen ∧ t.checksum = s.checksum) ∧
    (i ≠ .view → t.viewOffset = s.viewOffset ∧ t.viewLen = s.viewLen ∧ t.viewLoaded = s.viewLoaded) ∧
    (i ≠ .tsDecode → t.tsRaw = s.tsRaw ∧ t.tsOffset = s.tsOffset ∧ t.tsLoaded = s.tsLoaded) ∧
    (i ≠ .tsEncode → t.tsOut = s.tsOut) ∧
    (i ≠ .hdrParse → i ≠ .pktParse → i ≠ .tsDecode → t.draws = s.draws)

/-! ## The host bus -/

/-- A host write of w to CMD while busy = 0 stores w in cmd, sets busy, clears done and answers OKAY; nothing else
changes but the model's own count of waited cycles (log 5), which starts at 0. -/
def Obligations.CommandWriteIssues : Prop :=
  ∀ (s : State) (w : Word), s.rstN = true → s.busy = false →
    busWrite 0x00000C#24 w s = { s with cmd := w, busy := true, done := false, waited := 0, bus := .wrote .okay }

/-- While busy = 1, a write to CMD, BUF_LEN, ARG_OFFSET, ARG_LENGTH, ENC_DATE, ENC_TIME or the frame RAM window changes
nothing but wr_busy, which becomes 1; writes to CTRL and STATUS are accepted; writes to RO registers are ignored; all
are answered OKAY, and every read of a mapped address is answered OKAY. -/
def Obligations.WritesWhileBusy : Prop :=
  ∀ (s : State) (w : Word), s.rstN = true → s.busy = true →
    (∀ a ∈ [0x00000C#24, 0x000010#24, 0x000014#24, 0x000018#24, 0x000020#24, 0x000024#24],
      busWrite a w s = { s with wrBusy := true, bus := .wrote .okay }) ∧
    (∀ i, i < s.bufDepth → s.bufDepth ≤ Config.bufDepthMax →
      busWrite (BitVec.ofNat 24 (0x010000 + 4 * i)) w s = { s with wrBusy := true, bus := .wrote .okay }) ∧
    (w[1] = false → busWrite 0x000004#24 w s = { s with irqEn := w[0], bus := .wrote .okay }) ∧
    (w[1] = true → busWrite 0x000004#24 w s = { resetElements s with bus := .wrote .okay }) ∧
    busWrite 0x000008#24 w s =
      { s with done := s.done && !w[1], wrBusy := s.wrBusy && !w[9], bus := .wrote .okay } ∧
    (∀ r : Reg, r.access = .ro → busWrite (regAddr r) w s = { s with bus := .wrote .okay }) ∧
    (∀ r : Reg, ∃ v, (busRead (regAddr r) s).bus = .read .okay v) ∧
    (∀ i, i < s.bufDepth → s.bufDepth ≤ Config.bufDepthMax →
      ∃ v, (busRead (BitVec.ofNat 24 (0x010000 + 4 * i)) s).bus = .read .okay v)

/-- No input of the command in flight changes between issue and completion: while busy stays 1 over a step, cmd, every
operand register, the latched header, its loaded flags and the RAM stay as they are. -/
def Obligations.InputsFixedInFlight : Prop :=
  ∀ s t : State, s.rstN = true → s.busy = true → step s = .next t → t.busy = true →
    t.cmd = s.cmd ∧ t.bufLen = s.bufLen ∧ t.argOffset = s.argOffset ∧ t.argLength = s.argLength ∧
    t.encYear = s.encYear ∧ t.encMonth = s.encMonth ∧ t.encDay = s.encDay ∧ t.encHour = s.encHour ∧
    t.encMinute = s.encMinute ∧ t.encSecond = s.encSecond ∧ t.hdrRaw = s.hdrRaw ∧ t.hdrLoaded = s.hdrLoaded ∧
    t.pktLoaded = s.pktLoaded ∧ t.ram = s.ram

/-- What the host does between issue and completion cannot change a command's results: completing after any host write
but a soft reset, or after a read of any address but the window of an unwritten byte, gives the same error registers,
valid, loaded flags and result registers as completing at once. (A read of an unwritten byte has no defined value and
moves the model's draws on: log 3.) -/
def Obligations.HostAccessesDoNotChangeResults : Prop :=
  ∀ (s : State) (a : Addr), s.rstN = true → s.busy = true →
    (∀ w : Word, ¬(a = 0x000004#24 ∧ w[1] = true) →
      ∃ t u, complete s = .next t ∧ complete (busWrite a w s) = .next u ∧ sameResults t u) ∧
    ((∀ i, i < s.bufDepth → a.toNat = 0x010000 + 4 * i → ∃ b, s.ram.read? i = some b) →
      ∃ t u, complete s = .next t ∧ complete (busRead a s) = .next u ∧ sameResults t u)

/-- An access to an unmapped address (an unlisted offset of the register block, 0x001000 to 0x00FFFF, or past the frame
RAM window) or to a misaligned address is answered ERROR: a write changes nothing else, a read returns 0 and changes
nothing else. -/
def Obligations.UnmappedAndMisalignedAccess : Prop :=
  ∀ (s : State) (a : Addr) (w : Word), s.rstN = true →
    (a.toNat % 4 ≠ 0 ∨ (a.toNat < 0x001000 ∧ ∀ r : Reg, r.offset ≠ a.toNat) ∨
      (0x001000 ≤ a.toNat ∧ a.toNat < 0x010000) ∨ 0x010000 + 4 * s.bufDepth ≤ a.toNat) →
    busWrite a w s = { s with bus := .wrote .error } ∧ busRead a s = { s with bus := .read .error 0 }

/-- A read of a mapped register answers its value with OKAY and changes nothing else; a write to any register is
answered OKAY, whether busy or not; a write to a register that is RO changes nothing else. -/
def Obligations.RegisterAccessReplies : Prop :=
  ∀ (s : State) (r : Reg) (w : Word), s.rstN = true →
    busRead (regAddr r) s = { s with bus := .read .okay (readReg r s) } ∧
    (busWrite (regAddr r) w s).bus = .wrote .okay ∧
    (r.access = .ro → busWrite (regAddr r) w s = { s with bus := .wrote .okay })

/-- While busy = 0, ARG_OFFSET and ARG_LENGTH store all 32 bits, ENC_DATE stores year, month and day, ENC_TIME stores
hour, minute and second; nothing else changes; each reads back what was written, ENC_TIME without bits [31:24]; ENC_DATE
and ENC_TIME read 0 after reset. -/
def Obligations.OperandRegistersHoldWhatIsWritten : Prop :=
  (∀ (s : State) (w : Word), s.rstN = true → s.busy = false →
    busWrite 0x000014#24 w s = { s with argOffset := w, bus := .wrote .okay } ∧
    busWrite 0x000018#24 w s = { s with argLength := w, bus := .wrote .okay } ∧
    busWrite 0x000020#24 w s =
      { s with
        encYear := BitVec.ofNat 16 w.toNat, encMonth := BitVec.ofNat 8 (w.toNat / 2 ^ 16),
        encDay := BitVec.ofNat 8 (w.toNat / 2 ^ 24), bus := .wrote .okay } ∧
    busWrite 0x000024#24 w s =
      { s with
        encHour := BitVec.ofNat 8 w.toNat, encMinute := BitVec.ofNat 8 (w.toNat / 2 ^ 8),
        encSecond := BitVec.ofNat 8 (w.toNat / 2 ^ 16), bus := .wrote .okay } ∧
    (busRead 0x000014#24 (busWrite 0x000014#24 w s)).bus = .read .okay w ∧
    (busRead 0x000018#24 (busWrite 0x000018#24 w s)).bus = .read .okay w ∧
    (busRead 0x000020#24 (busWrite 0x000020#24 w s)).bus = .read .okay w ∧
    (busRead 0x000024#24 (busWrite 0x000024#24 w s)).bus = .read .okay (w &&& 0x00FFFFFF#32)) ∧
  readReg .encDate State.reset = 0 ∧ readReg .encTime State.reset = 0

/-- An accepted write of w to BUF_LEN stores min(w, BUF_DEPTH), clears the four loaded flags (it is a buffer mutation,
even where the value stays the same) and changes nothing else; a read returns buf_len; the reset value is 0. -/
def Obligations.BufLenWrite : Prop :=
  (∀ (s : State) (w : Word), s.rstN = true → s.busy = false →
    busWrite 0x000010#24 w s =
      { s with
        bufLen := (if w.toNat ≤ s.bufDepth then w else BitVec.ofNat 32 s.bufDepth), hdrLoaded := false,
        pktLoaded := false, tsLoaded := false, viewLoaded := false, bus := .wrote .okay }) ∧
  (∀ s : State, s.rstN = true → (busRead 0x000010#24 s).bus = .read .okay s.bufLen) ∧
  readReg .bufLen State.reset = 0

/-- A window write to RAM byte i while busy = 0 stores bits [7:0] there, leaves every other RAM byte, clears the four
loaded flags and changes nothing else, whatever buf_len is; while busy = 1 it only sets wr_busy. A window read of a
written byte answers it zero-extended and changes nothing else, whether busy or not. All are answered OKAY. -/
def Obligations.WindowWriteAndRead : Prop :=
  ∀ (s : State) (i : Nat) (w : Word), s.rstN = true → i < s.bufDepth → s.bufDepth ≤ Config.bufDepthMax →
    (s.busy = false →
      ∃ m : Memory,
        busWrite (BitVec.ofNat 24 (0x010000 + 4 * i)) w s =
          { s with
            ram := m, hdrLoaded := false, pktLoaded := false, tsLoaded := false, viewLoaded := false,
            bus := .wrote .okay } ∧
        ∀ j, m.read? j = if j = i then some (BitVec.ofNat 8 w.toNat) else s.ram.read? j) ∧
    (s.busy = true →
      busWrite (BitVec.ofNat 24 (0x010000 + 4 * i)) w s = { s with wrBusy := true, bus := .wrote .okay }) ∧
    (∀ b, s.ram.read? i = some b →
      busRead (BitVec.ofNat 24 (0x010000 + 4 * i)) s = { s with bus := .read .okay (BitVec.ofNat 32 b.toNat) })

/-- The model's choice of log 3: a window read of a byte that nothing has written since power-up is answered OKAY with
some byte, a new draw of the free value, and changes nothing else; a parse or decode that succeeds draws once for each
unwritten byte it reads, and a command that fails draws none. -/
def Obligations.UnwrittenByteIsAFreshDraw : Prop :=
  (∀ (s : State) (i : Nat), s.rstN = true → i < s.bufDepth → s.bufDepth ≤ Config.bufDepthMax →
    s.ram.read? i = none →
    busRead (BitVec.ofNat 24 (0x010000 + 4 * i)) s =
      { s with bus := .read .okay (BitVec.ofNat 32 (Config.freeByte s.draws).toNat), draws := s.draws + 1 }) ∧
  (∀ s t : State, exec .hdrParse s = .next t → t.errKind = 0 →
    t.draws = s.draws + unwrittenCount s.ram s.argOffset.toNat 24) ∧
  (∀ s t : State, exec .pktParse s = .next t → t.errKind = 0 →
    t.draws = s.draws + unwrittenCount s.ram s.argOffset.toNat 24 + unwrittenCount s.ram (s.bufLen.toNat - 1) 1) ∧
  (∀ s t : State, exec .tsDecode s = .next t → t.errKind = 0 →
    t.draws = s.draws + unwrittenCount s.ram s.argOffset.toNat 6) ∧
  (∀ (i : Instr) (s t : State), exec i s = .next t → t.errKind ≠ 0 → t.draws = s.draws)

/-- The address map: for every legal BUF_DEPTH, address 0x010000 + 4*i names RAM byte i for each i below BUF_DEPTH and
lies in the 24-bit space with all four of its bytes; each register of R23 stands at
its offset in that table, word-aligned and in the register block, with its access type, whatever BUF_DEPTH is. -/
def Obligations.AddressMap : Prop :=
  (∀ d i : Nat, d ≤ Config.bufDepthMax → i < d →
    decodeAddr d (BitVec.ofNat 24 (0x010000 + 4 * i)) = .window i ∧ 0x010000 + 4 * d - 1 ≤ 0xFFFFFF) ∧
  (∀ (d : Nat) (r : Reg) (n : Nat) (k : Access), (r, n, k) ∈ registerTable →
    decodeAddr d (BitVec.ofNat 24 n) = .reg r ∧ r.offset = n ∧ r.access = k ∧ n % 4 = 0 ∧ n < 0x001000) ∧
  (∀ r : Reg, ∃ n k, (r, n, k) ∈ registerTable)

/-! ## Registers -/

/-- STATUS shows busy, done, ERR, the loaded flags, valid, LEN_MISMATCH, wr_busy, err_kind and err_cause in the bits of
R26 and 0 in its reserved bits; a write clears done if bit 1 is set and wr_busy if bit 9 is set, and does nothing else,
whether busy or not; it reads 0 after reset. -/
def Obligations.StatusWordLayout : Prop :=
  (∀ s : State,
    (readReg .status s)[0] = s.busy ∧ (readReg .status s)[1] = s.done ∧
    (readReg .status s)[2] = decide (s.errKind ≠ 0) ∧ (readReg .status s)[3] = s.hdrLoaded ∧
    (readReg .status s)[4] = s.pktLoaded ∧ (readReg .status s)[5] = s.tsLoaded ∧
    (readReg .status s)[6] = s.viewLoaded ∧ (readReg .status s)[7] = s.valid ∧
    (readReg .status s)[8] =
      (s.pktLoaded && decide (s.payLen.toNat ≠ s.hdrRaw[22].toNat * 256 + s.hdrRaw[23].toNat)) ∧
    (readReg .status s)[9] = s.wrBusy ∧ (readReg .status s).extractLsb' 10 2 = 0 ∧
    (readReg .status s).extractLsb' 12 4 = s.errKind ∧ (readReg .status s).extractLsb' 16 8 = s.errCause ∧
    (readReg .status s).extractLsb' 24 8 = 0) ∧
  (∀ (s : State) (w : Word), s.rstN = true →
    busWrite 0x000008#24 w s =
      { s with done := s.done && !w[1], wrBusy := s.wrBusy && !w[9], bus := .wrote .okay }) ∧
  readReg .status State.reset = 0

/-- The header registers show the latched bytes, whatever hdr_loaded is: the magic and the data length big-endian, the
raw command, response and encryption bytes with their enumeration codes, and the 17 VIN bytes in lane order. Their
reserved bits read 0. -/
def Obligations.HeaderRegistersShowLatchedBytes : Prop :=
  ∀ s : State,
    (readReg .hdrMagic s).toNat = s.hdrRaw[0].toNat * 256 + s.hdrRaw[1].toNat ∧
    (readReg .hdrCodes s).extractLsb' 0 8 = s.hdrRaw[2] ∧
    (readReg .hdrCodes s).extractLsb' 8 3 = cmdEnum s.hdrRaw[2] ∧
    (readReg .hdrCodes s).extractLsb' 16 8 = s.hdrRaw[3] ∧
    (readReg .hdrCodes s).extractLsb' 24 3 = rspEnum s.hdrRaw[3] ∧
    (readReg .hdrEnc s).extractLsb' 0 8 = s.hdrRaw[21] ∧
    (readReg .hdrEnc s).extractLsb' 8 3 = encEnum s.hdrRaw[21] ∧
    ((readReg .hdrEnc s).extractLsb' 16 16).toNat = s.hdrRaw[22].toNat * 256 + s.hdrRaw[23].toNat ∧
    (readReg .hdrCodes s).extractLsb' 11 5 = 0 ∧ (readReg .hdrCodes s).extractLsb' 27 5 = 0 ∧
    (readReg .hdrEnc s).extractLsb' 11 5 = 0 ∧
    (∀ k : Fin 4,
      (readReg .hdrVin0 s).extractLsb' (8 * k) 8 = s.hdrRaw[4 + k.val] ∧
      (readReg .hdrVin1 s).extractLsb' (8 * k) 8 = s.hdrRaw[8 + k.val] ∧
      (readReg .hdrVin2 s).extractLsb' (8 * k) 8 = s.hdrRaw[12 + k.val] ∧
      (readReg .hdrVin3 s).extractLsb' (8 * k) 8 = s.hdrRaw[16 + k.val]) ∧
    (readReg .hdrVin4 s).toNat = s.hdrRaw[20].toNat

/-- The enumeration codes: a frame command byte 1 to 6 has its own value as code and any other 7; a response byte 1 to 3
its own value, 0xFE 4, any other 7; an encryption byte 0 to 2 its own value, 0xFE 3, any other 7. -/
def Obligations.EnumerationCodes : Prop :=
  ∀ b : Byte,
    (1 ≤ b.toNat ∧ b.toNat ≤ 6 → (cmdEnum b).toNat = b.toNat) ∧
    (b.toNat = 0 ∨ 7 ≤ b.toNat → cmdEnum b = 7) ∧
    (1 ≤ b.toNat ∧ b.toNat ≤ 3 → (rspEnum b).toNat = b.toNat) ∧ (b.toNat = 0xFE → rspEnum b = 4) ∧
    (b.toNat = 0 ∨ 4 ≤ b.toNat ∧ b.toNat ≠ 0xFE → rspEnum b = 7) ∧
    (b.toNat ≤ 2 → (encEnum b).toNat = b.toNat) ∧ (b.toNat = 0xFE → encEnum b = 3) ∧
    (3 ≤ b.toNat ∧ b.toNat ≠ 0xFE → encEnum b = 7)

/-- HDR_VIN_LEN reads the smallest j in 0..16 with vin[j] = 0, or 17 if there is none; HeaderCheck fails its VIN check
only when it is not 17, and with 17 never; after reset it reads 0. -/
def Obligations.VinLengthRegister : Prop :=
  (∀ s : State,
    (∀ j : Fin 17, (readReg .hdrVinLen s).toNat = j.val ↔
      s.hdrRaw[4 + j.val] = 0x00#8 ∧ ∀ k : Fin 17, k < j → s.hdrRaw[4 + k.val] ≠ 0x00#8) ∧
    ((readReg .hdrVinLen s).toNat = 17 ↔ ∀ j : Fin 17, s.hdrRaw[4 + j.val] ≠ 0x00#8) ∧
    (readReg .hdrVinLen s).toNat ≤ 17 ∧
    (∀ info, headerCheck s.hdrRaw = some (.vinLengthInvalid, info) → (readReg .hdrVinLen s).toNat ≠ 17) ∧
    (headerCheck s.hdrRaw = none → (readReg .hdrVinLen s).toNat = 17)) ∧
  readReg .hdrVinLen State.reset = 0

/-- The timestamp registers are functions of the latched bytes: TS_YEAR is 100 plus the signed byte 0, in -28..227;
TS_MON0 is byte 1 minus 1, in -1..254; TS_DATE holds month and day, TS_TIME hour, minute and second, unchecked. -/
def Obligations.TimestampRegisters : Prop :=
  ∀ s : State,
    (readReg .tsYear s).toInt = 100 + s.tsRaw[0].toInt ∧
    (-28 ≤ (readReg .tsYear s).toInt ∧ (readReg .tsYear s).toInt ≤ 227) ∧
    (readReg .tsMon0 s).toInt = (s.tsRaw[1].toNat : Int) - 1 ∧
    (-1 ≤ (readReg .tsMon0 s).toInt ∧ (readReg .tsMon0 s).toInt ≤ 254) ∧
    (readReg .tsDate s).extractLsb' 0 8 = s.tsRaw[1] ∧ (readReg .tsDate s).extractLsb' 8 8 = s.tsRaw[2] ∧
    (readReg .tsDate s).extractLsb' 16 16 = 0 ∧
    (readReg .tsTime s).extractLsb' 0 8 = s.tsRaw[3] ∧ (readReg .tsTime s).extractLsb' 8 8 = s.tsRaw[4] ∧
    (readReg .tsTime s).extractLsb' 16 8 = s.tsRaw[5] ∧ (readReg .tsTime s).extractLsb' 24 8 = 0

/-- TS_RAW and TS_OUT hold their six bytes in lane order, four in the low register and two in the high one, whose bits
[31:16] read 0; ID reads 0x32393630 and BUF_DEPTH the parameter; CMD, ERR_INFO and the operand, packet, view and offset
registers read their elements, ENC_DATE and ENC_TIME each element in its bits. -/
def Obligations.ResultRegistersShowElements : Prop :=
  ∀ s : State,
    (∀ k : Fin 4, (readReg .tsRawLo s).extractLsb' (8 * k) 8 = s.tsRaw[k.val] ∧
      (readReg .tsOutLo s).extractLsb' (8 * k) 8 = s.tsOut[k.val]) ∧
    (∀ k : Fin 2, (readReg .tsRawHi s).extractLsb' (8 * k) 8 = s.tsRaw[4 + k.val] ∧
      (readReg .tsOutHi s).extractLsb' (8 * k) 8 = s.tsOut[4 + k.val]) ∧
    (readReg .tsRawHi s).extractLsb' 16 16 = 0 ∧ (readReg .tsOutHi s).extractLsb' 16 16 = 0 ∧
    readReg .tsOffset s = s.tsOffset ∧ readReg .hdrOffset s = s.hdrOffset ∧
    readReg .pktPayOffset s = s.payOffset ∧ readReg .pktPayLen s = s.payLen ∧
    (readReg .pktChecksum s).toNat = s.checksum.toNat ∧
    readReg .viewOffset s = s.viewOffset ∧ readReg .viewLen s = s.viewLen ∧
    readReg .id s = 0x32393630#32 ∧ (s.bufDepth ≤ Config.bufDepthMax → (readReg .bufDepth s).toNat = s.bufDepth) ∧
    readReg .cmd s = s.cmd ∧ readReg .errInfo s = s.errInfo ∧ readReg .bufLen s = s.bufLen ∧
    readReg .argOffset s = s.argOffset ∧ readReg .argLength s = s.argLength ∧
    (readReg .encDate s).toNat =
      s.encDay.toNat * 2 ^ 24 + s.encMonth.toNat * 2 ^ 16 + s.encYear.toNat ∧
    (readReg .encTime s).toNat = s.encSecond.toNat * 2 ^ 16 + s.encMinute.toNat * 2 ^ 8 + s.encHour.toNat

/-! ## Interrupt and reset -/

/-- irq is the level IRQ_EN AND DONE: every completion sets DONE; a write of 1 to STATUS[1], the issue of a command and
reset clear it. A write to CTRL with bit 1 clear stores bit 0 as IRQ_EN and changes nothing else, busy or not, so that
setting IRQ_EN while DONE = 1 asserts irq at once, and clearing it masks irq. -/
def Obligations.IrqIsALevel : Prop :=
  (∀ s : State, irq s = true ↔ s.irqEn = true ∧ s.done = true) ∧
  (∀ (i : Instr) (s t : State), exec i s = .next t → t.done = true ∧ irq t = s.irqEn) ∧
  (∀ (s : State) (w : Word), s.rstN = true → w[1] = true → irq (busWrite 0x000008#24 w s) = false) ∧
  (∀ (s : State) (w : Word), s.rstN = true → s.busy = false → irq (busWrite 0x00000C#24 w s) = false) ∧
  (∀ s : State, irq (resetElements s) = false) ∧
  (∀ (s : State) (w : Word), s.rstN = true → w[1] = false →
    busWrite 0x000004#24 w s = { s with irqEn := w[0], bus := .wrote .okay } ∧
    irq (busWrite 0x000004#24 w s) = (w[0] && s.done))

/-- A host write to CTRL with bit 1 set resets every element but the RAM in that step, whatever busy and bit 0 are, and
is answered OKAY: a command in flight is abandoned, IRQ_EN is 0, and the engine's next turn changes nothing. CTRL[1]
reads 0 at all times, CTRL[0] reads IRQ_EN and the reserved bits read 0. -/
def Obligations.SoftReset : Prop :=
  (∀ (s : State) (w : Word), s.rstN = true → w[1] = true →
    busWrite 0x000004#24 w s =
      { State.reset with
        ram := s.ram, bufDepth := s.bufDepth, rstN := true, bus := .wrote .okay, inputs := s.inputs,
        draws := s.draws } ∧
    engineTurn (busWrite 0x000004#24 w s) = .next (busWrite 0x000004#24 w s)) ∧
  (∀ s : State, (readReg .ctrl s)[1] = false ∧ (readReg .ctrl s)[0] = s.irqEn ∧
    (readReg .ctrl s).extractLsb' 2 30 = 0)

/-- There are two resets. Sampling rst_n low resets every element but the RAM in that step, and so does a host write to
CTRL with bit 1 set, which is answered OKAY. While rst_n is low a write is answered ERROR, a
read ERROR with data 0, the engine and the clock do nothing, and nothing but that reply and the schedule changes, until
rst_n is sampled high. The model's choices here, of log 6: that a pin sample keeps the last bus reply, and (DEDUCED) that
a write to CTRL held in reset gets ERROR like every access; the schedule is log 1's. -/
def Obligations.HardwareResetHolds : Prop :=
  (∀ (s : State) (rest : List Input), s.inputs = .rst false :: rest →
    step s = .next { State.reset with
      ram := s.ram, bufDepth := s.bufDepth, rstN := false, bus := s.bus, inputs := rest, draws := s.draws }) ∧
  (∀ (s : State) (w : Word) (rest : List Input), s.inputs = .write 0x000004#24 w :: rest → s.rstN = true →
    w[1] = true → step s = .next { State.reset with
      ram := s.ram, bufDepth := s.bufDepth, rstN := true, bus := .wrote .okay, inputs := rest, draws := s.draws }) ∧
  (∀ (s : State) (rest : List Input), s.rstN = false →
    (∀ a w, s.inputs = .write a w :: rest → step s = .next { s with bus := .wrote .error, inputs := rest }) ∧
    (∀ a, s.inputs = .read a :: rest → step s = .next { s with bus := .read .error 0, inputs := rest }) ∧
    (s.inputs = .engine :: rest ∨ s.inputs = .clock :: rest → step s = .next { s with inputs := rest }) ∧
    (s.inputs = .rst true :: rest → step s = .next { s with rstN := true, inputs := rest }) ∧
    (s.inputs = [] → step s = .next s))

/-- After a reset GBHP is idle with DONE = 0, irq deasserted and masked, no group loaded, BUF_LEN = 0 and zero error
registers; every register reads the reset column of R23; and it does nothing by itself: in any state with no command in
flight the engine's turn and a clock cycle change nothing. (That these are entries of a schedule is the model's choice of
logs 1 and 5.) -/
def Obligations.StateAfterReset : Prop :=
  ∀ s : State,
    (resetElements s).busy = false ∧ (resetElements s).done = false ∧ irq (resetElements s) = false ∧
    (resetElements s).irqEn = false ∧ (resetElements s).hdrLoaded = false ∧ (resetElements s).pktLoaded = false ∧
    (resetElements s).tsLoaded = false ∧ (resetElements s).viewLoaded = false ∧ (resetElements s).bufLen = 0 ∧
    (resetElements s).errKind = 0 ∧ (resetElements s).errCause = 0 ∧ (resetElements s).errInfo = 0 ∧
    (∀ r : Reg, readReg r (resetElements s) = resetColumn s.bufDepth r) ∧
    (∀ rest, s.inputs = [] ∧ rest = [] ∨ s.inputs = .engine :: rest ∨ s.inputs = .clock :: rest →
      step (resetElements s) = .next { resetElements s with inputs := rest } ∧
      (s.busy = false → step s = .next { s with inputs := rest }))

/-! ## Whole-machine rules -/

/-- The machine never stops: whatever the state and whatever the environment does, a step answers a next state. -/
def Obligations.EveryStepProceeds : Prop :=
  ∀ s : State, ∃ t, step s = .next t

/-- The RAM changes only by an accepted host write to its window, and then only in the byte written: the engine never
writes it and no reset changes it. -/
def Obligations.RamChangesOnlyByWindowWrites : Prop :=
  ∀ s t : State, step s = .next t → t.ram ≠ s.ram →
    ∃ (i : Nat) (a : Addr) (w : Word) (rest : List Input),
      s.inputs = .write a w :: rest ∧ s.rstN = true ∧ s.busy = false ∧ i < s.bufDepth ∧
      decodeAddr s.bufDepth a = .window i ∧
      (∀ j, t.ram.read? j = if j = i then some (BitVec.ofNat 8 w.toNat) else s.ram.read? j)

/-- A loaded flag is set only by the completion of its own command with success, and cleared only by a completion of its
own constructing command with failure, a buffer mutation or a reset; pkt_loaded also by the completion of an HDR_PARSE. -/
def Obligations.LoadedFlagsLifecycle : Prop :=
  ∀ s t : State, step s = .next t →
    (s.hdrLoaded = false → t.hdrLoaded = true →
      completes s t ∧ (decode s.cmd = .hdrParse ∨ decode s.cmd = .pktParse) ∧ t.errKind = 0) ∧
    (s.pktLoaded = false → t.pktLoaded = true → completes s t ∧ decode s.cmd = .pktParse ∧ t.errKind = 0) ∧
    (s.tsLoaded = false → t.tsLoaded = true → completes s t ∧ decode s.cmd = .tsDecode ∧ t.errKind = 0) ∧
    (s.viewLoaded = false → t.viewLoaded = true → completes s t ∧ decode s.cmd = .view ∧ t.errKind = 0) ∧
    (s.hdrLoaded = true → t.hdrLoaded = false → resetStep s ∨ mutationStep s ∨
      completes s t ∧ (decode s.cmd = .hdrParse ∨ decode s.cmd = .pktParse) ∧ t.errKind ≠ 0) ∧
    (s.pktLoaded = true → t.pktLoaded = false → resetStep s ∨ mutationStep s ∨
      completes s t ∧ (decode s.cmd = .hdrParse ∨ decode s.cmd = .pktParse ∧ t.errKind ≠ 0)) ∧
    (s.tsLoaded = true → t.tsLoaded = false → resetStep s ∨ mutationStep s ∨
      completes s t ∧ decode s.cmd = .tsDecode ∧ t.errKind ≠ 0) ∧
    (s.viewLoaded = true → t.viewLoaded = false → resetStep s ∨ mutationStep s ∨
      completes s t ∧ decode s.cmd = .view ∧ t.errKind ≠ 0)

/-- Outside a completion and a reset no step changes the error registers, valid or a result register: so they hold the
previous command's values while a command is in flight, over a clock cycle that only waits as over a host access, and
until the next completion. -/
def Obligations.ResultsHoldUntilCompletion : Prop :=
  ∀ s t : State, step s = .next t → t.busy = true ∨ ¬completionStep s → ¬resetStep s →
    t.errKind = s.errKind ∧ t.errCause = s.errCause ∧ t.errInfo = s.errInfo ∧ t.valid = s.valid ∧
    t.hdrRaw = s.hdrRaw ∧ t.hdrOffset = s.hdrOffset ∧ t.payOffset = s.payOffset ∧ t.payLen = s.payLen ∧
    t.checksum = s.checksum ∧ t.viewOffset = s.viewOffset ∧ t.viewLen = s.viewLen ∧ t.tsRaw = s.tsRaw ∧
    t.tsOffset = s.tsOffset ∧ t.tsOut = s.tsOut

/-- A command in flight completes within MAX_LATENCY clock cycles: from any state with a command in flight that has
waited m cycles, n >= 1 further cycles with m + n >= MAX_LATENCY bring the completion after at least one and at most n
of them. A cycle below the bound changes nothing but the count and the schedule, and the cycle that reaches it completes
the command. That cycles are clock entries, counted in waited, is the model's choice of log 5. -/
def Obligations.CommandCompletesWithinMaxLatency : Prop :=
  (∀ (s : State) (rest : List Input), s.rstN = true → s.busy = true → s.inputs = .clock :: rest →
    step s =
      if s.waited + 1 < Config.maxLatency then .next { s with inputs := rest, waited := s.waited + 1 }
      else exec (decode s.cmd) { s with inputs := rest }) ∧
  (∀ (s : State) (n : Nat) (rest : List Input), s.rstN = true → s.busy = true → 1 ≤ n →
    Config.maxLatency ≤ s.waited + n → s.inputs = List.replicate n .clock ++ rest →
    ∃ (k : Nat) (t : State), 1 ≤ k ∧ k ≤ n ∧ Host.Core.run Sys2Proof.core k s = .next t ∧
      t.busy = false ∧ t.done = true)

/-! ## Invariants -/

/-- Every step keeps BUF_DEPTH legal and buf_len at most BUF_DEPTH, and the RAM in canonical form with every listed
byte below BUF_DEPTH. -/
def Obligations.BufferAndRamStayWellFormed : Prop :=
  KeptByStep bufferFits ∧ KeptByStep ramWellFormed

/-- Every step keeps the error registers at zeros or at one of the ten pairs of kind and cause numbers of R232: no other
pair is ever produced. -/
def Obligations.ErrorPairsStayLegal : Prop := KeptByStep errorPairLegal

/-- Every step keeps the handshake: done is 0 while a command is in flight, and valid stands only with zero error
registers. -/
def Obligations.HandshakeStaysConsistent : Prop := KeptByStep handshakeConsistent

/-- Every step keeps every live view inside the buffer: offset + length at most buf_len for a loaded view, offset + 24
for a loaded header, offset + 6 for a loaded timestamp, and for a loaded packet the payload after the header and ending
one byte before the buffer's end. -/
def Obligations.LiveViewsStayInBounds : Prop := KeptByStep liveViewsInBounds

/-- Every step keeps the latched bytes of a live group equal to the written RAM bytes they were taken from: header,
timestamp and checksum describe the current buffer while their loaded flag is 1. -/
def Obligations.LiveLatchesMatchTheRam : Prop := KeptByStep latchesMatchRam

/-- Every step keeps it that, while rst_n is low, every element but the RAM is at its reset value. -/
def Obligations.ResetIsHeldWhileLow : Prop := KeptByStep heldInReset

/-- Every step keeps it that a command in flight has waited less than MAX_LATENCY clock cycles, as the model counts
them (log 5). -/
def Obligations.WaitStaysBelowMaxLatency : Prop := KeptByStep latencyBounded

/-- The state after reset meets every invariant stated of every step. -/
def Obligations.ResetMeetsTheInvariants : Prop :=
  bufferFits State.reset ∧ ramWellFormed State.reset ∧ errorPairLegal State.reset ∧
  handshakeConsistent State.reset ∧ liveViewsInBounds State.reset ∧ latchesMatchRam State.reset ∧
  heldInReset State.reset ∧ latencyBounded State.reset
end

