-- ==== Sys2Proof/Laws/Memory.lean ====
section
/-! SUPPORT. The laws of the frame RAM: reading after a write, the canonical form, and what `memRead` answers. -/

namespace Sys2Proof.Machine

theorem read?_write_same (m : Memory) (i : Nat) (b : Byte) : (m.write i b).read? i = some b := by
  induction m with
  | nil => simp [Memory.write, Memory.read?]
  | cons c m ih =>
    obtain ⟨a, x⟩ := c
    simp only [Memory.write]
    split_ifs with h1 h2
    · simp [Memory.read?]
    · simp [Memory.read?]
    · simp [Memory.read?, ih, Ne.symm h2]

theorem read?_write_other (m : Memory) (i j : Nat) (b : Byte) (h : j ≠ i) : (m.write i b).read? j = m.read? j := by
  induction m with
  | nil => simp [Memory.write, Memory.read?, Ne.symm h]
  | cons c m ih =>
    obtain ⟨a, x⟩ := c
    simp only [Memory.write]
    split_ifs with h1 h2
    · simp [Memory.read?, Ne.symm h]
    · subst h2
      simp [Memory.read?, Ne.symm h]
    · simp [Memory.read?, ih]

/-- A written index holds its byte, and every other index reads as before. -/
theorem read?_write (m : Memory) (i j : Nat) (b : Byte) :
    (m.write i b).read? j = if j = i then some b else m.read? j := by
  split_ifs with h
  · subst h; exact read?_write_same m j b
  · exact read?_write_other m i j b h

/-- An entry of the RAM after a write is the written one or was there before. -/
theorem mem_write {m : Memory} {i : Nat} {b : Byte} {c : Host.Cell} (h : c ∈ m.write i b) : c = (i, b) ∨ c ∈ m := by
  induction m with
  | nil => exact .inl (by simpa [Memory.write] using h)
  | cons d m ih =>
    obtain ⟨a, x⟩ := d
    simp only [Memory.write] at h
    split_ifs at h with h1 h2
    · simpa using h
    · rcases List.mem_cons.1 h with h | h
      · exact .inl h
      · exact .inr (List.mem_cons_of_mem _ h)
    · rcases List.mem_cons.1 h with h | h
      · exact .inr (h ▸ List.mem_cons_self)
      · exact (ih h).imp id (List.mem_cons_of_mem _)

/-- A write keeps the canonical form. -/
theorem write_wf {m : Memory} (i : Nat) (b : Byte) (h : m.wf) : (m.write i b).wf := by
  induction m with
  | nil => simp [Memory.write, Memory.wf]
  | cons d m ih =>
    obtain ⟨a, x⟩ := d
    obtain ⟨hhead, htail⟩ := List.pairwise_cons.1 h
    simp only [Memory.write]
    split_ifs with h1 h2
    · refine List.pairwise_cons.2 ⟨fun c hc => ?_, h⟩
      rcases List.mem_cons.1 hc with rfl | hc
      · exact h1
      · exact lt_trans h1 (hhead c hc)
    · subst h2
      exact List.pairwise_cons.2 ⟨hhead, htail⟩
    · refine List.pairwise_cons.2 ⟨fun c hc => ?_, ih htail⟩
      rcases mem_write hc with rfl | hc
      · exact lt_of_le_of_ne (not_lt.1 h1) (Ne.symm h2)
      · exact hhead c hc

theorem reset_ram_wf : State.reset.ram.wf := List.Pairwise.nil

theorem readByte_written {m : Memory} {i d : Nat} {b : Byte} (h : m.read? i = some b) : readByte m i d = (b, d) := by
  simp [readByte, h]

theorem readByte_unwritten {m : Memory} {i d : Nat} (h : m.read? i = none) :
    readByte m i d = (Config.freeByte d, d + 1) := by
  simp [readByte, h]

theorem readByte_draws (m : Memory) (i d : Nat) :
    (readByte m i d).2 = d + (if (m.read? i).isNone then 1 else 0) := by
  unfold readByte
  cases m.read? i <;> simp

/-- Every byte of a read that has been written reads as it was written. -/
theorem memRead_written (m : Memory) (i d n k : Nat) (hk : k < n) {b : Byte} (h : m.read? (i + k) = some b) :
    (memRead m i d n).1[k] = b := by
  induction n with
  | zero => omega
  | succ n ih =>
    simp only [memRead, Vector.getElem_push]
    split_ifs with hkn
    · exact ih hkn
    · obtain rfl : k = n := by omega
      rw [readByte_written h]

/-- A read draws one free byte for each index nothing has written. -/
theorem memRead_draws (m : Memory) (i d n : Nat) : (memRead m i d n).2 = d + unwrittenCount m i n := by
  induction n with
  | zero => rfl
  | succ n ih => simp only [memRead, unwrittenCount, readByte_draws, ih]; omega

end Sys2Proof.Machine
end

