-- ==== Sys2Proof/Laws/State.lean ====
section
/-! SUPPORT. One lemma per field per update of the state: what each named update leaves in each field. All hold by
definition, so that no proof unfolds an update. -/

namespace Sys2Proof.Machine

section mutateBufferFields

variable (s : State)

@[simp] theorem mutateBuffer_irqEn : (mutateBuffer s).irqEn = s.irqEn := rfl
@[simp] theorem mutateBuffer_busy : (mutateBuffer s).busy = s.busy := rfl
@[simp] theorem mutateBuffer_done : (mutateBuffer s).done = s.done := rfl
@[simp] theorem mutateBuffer_wrBusy : (mutateBuffer s).wrBusy = s.wrBusy := rfl
@[simp] theorem mutateBuffer_hdrLoaded : (mutateBuffer s).hdrLoaded = false := rfl
@[simp] theorem mutateBuffer_pktLoaded : (mutateBuffer s).pktLoaded = false := rfl
@[simp] theorem mutateBuffer_tsLoaded : (mutateBuffer s).tsLoaded = false := rfl
@[simp] theorem mutateBuffer_viewLoaded : (mutateBuffer s).viewLoaded = false := rfl
@[simp] theorem mutateBuffer_valid : (mutateBuffer s).valid = s.valid := rfl
@[simp] theorem mutateBuffer_errKind : (mutateBuffer s).errKind = s.errKind := rfl
@[simp] theorem mutateBuffer_errCause : (mutateBuffer s).errCause = s.errCause := rfl
@[simp] theorem mutateBuffer_errInfo : (mutateBuffer s).errInfo = s.errInfo := rfl
@[simp] theorem mutateBuffer_cmd : (mutateBuffer s).cmd = s.cmd := rfl
@[simp] theorem mutateBuffer_bufLen : (mutateBuffer s).bufLen = s.bufLen := rfl
@[simp] theorem mutateBuffer_argOffset : (mutateBuffer s).argOffset = s.argOffset := rfl
@[simp] theorem mutateBuffer_argLength : (mutateBuffer s).argLength = s.argLength := rfl
@[simp] theorem mutateBuffer_encYear : (mutateBuffer s).encYear = s.encYear := rfl
@[simp] theorem mutateBuffer_encMonth : (mutateBuffer s).encMonth = s.encMonth := rfl
@[simp] theorem mutateBuffer_encDay : (mutateBuffer s).encDay = s.encDay := rfl
@[simp] theorem mutateBuffer_encHour : (mutateBuffer s).encHour = s.encHour := rfl
@[simp] theorem mutateBuffer_encMinute : (mutateBuffer s).encMinute = s.encMinute := rfl
@[simp] theorem mutateBuffer_encSecond : (mutateBuffer s).encSecond = s.encSecond := rfl
@[simp] theorem mutateBuffer_hdrRaw : (mutateBuffer s).hdrRaw = s.hdrRaw := rfl
@[simp] theorem mutateBuffer_hdrOffset : (mutateBuffer s).hdrOffset = s.hdrOffset := rfl
@[simp] theorem mutateBuffer_payOffset : (mutateBuffer s).payOffset = s.payOffset := rfl
@[simp] theorem mutateBuffer_payLen : (mutateBuffer s).payLen = s.payLen := rfl
@[simp] theorem mutateBuffer_checksum : (mutateBuffer s).checksum = s.checksum := rfl
@[simp] theorem mutateBuffer_viewOffset : (mutateBuffer s).viewOffset = s.viewOffset := rfl
@[simp] theorem mutateBuffer_viewLen : (mutateBuffer s).viewLen = s.viewLen := rfl
@[simp] theorem mutateBuffer_tsRaw : (mutateBuffer s).tsRaw = s.tsRaw := rfl
@[simp] theorem mutateBuffer_tsOffset : (mutateBuffer s).tsOffset = s.tsOffset := rfl
@[simp] theorem mutateBuffer_tsOut : (mutateBuffer s).tsOut = s.tsOut := rfl
@[simp] theorem mutateBuffer_ram : (mutateBuffer s).ram = s.ram := rfl
@[simp] theorem mutateBuffer_bufDepth : (mutateBuffer s).bufDepth = s.bufDepth := rfl
@[simp] theorem mutateBuffer_rstN : (mutateBuffer s).rstN = s.rstN := rfl
@[simp] theorem mutateBuffer_bus : (mutateBuffer s).bus = s.bus := rfl
@[simp] theorem mutateBuffer_inputs : (mutateBuffer s).inputs = s.inputs := rfl
@[simp] theorem mutateBuffer_draws : (mutateBuffer s).draws = s.draws := rfl
@[simp] theorem mutateBuffer_waited : (mutateBuffer s).waited = s.waited := rfl

end mutateBufferFields

section issueFields

variable (w : Word) (s : State)

@[simp] theorem issue_irqEn : (issue w s).irqEn = s.irqEn := rfl
@[simp] theorem issue_busy : (issue w s).busy = true := rfl
@[simp] theorem issue_done : (issue w s).done = false := rfl
@[simp] theorem issue_wrBusy : (issue w s).wrBusy = s.wrBusy := rfl
@[simp] theorem issue_hdrLoaded : (issue w s).hdrLoaded = s.hdrLoaded := rfl
@[simp] theorem issue_pktLoaded : (issue w s).pktLoaded = s.pktLoaded := rfl
@[simp] theorem issue_tsLoaded : (issue w s).tsLoaded = s.tsLoaded := rfl
@[simp] theorem issue_viewLoaded : (issue w s).viewLoaded = s.viewLoaded := rfl
@[simp] theorem issue_valid : (issue w s).valid = s.valid := rfl
@[simp] theorem issue_errKind : (issue w s).errKind = s.errKind := rfl
@[simp] theorem issue_errCause : (issue w s).errCause = s.errCause := rfl
@[simp] theorem issue_errInfo : (issue w s).errInfo = s.errInfo := rfl
@[simp] theorem issue_cmd : (issue w s).cmd = w := rfl
@[simp] theorem issue_bufLen : (issue w s).bufLen = s.bufLen := rfl
@[simp] theorem issue_argOffset : (issue w s).argOffset = s.argOffset := rfl
@[simp] theorem issue_argLength : (issue w s).argLength = s.argLength := rfl
@[simp] theorem issue_encYear : (issue w s).encYear = s.encYear := rfl
@[simp] theorem issue_encMonth : (issue w s).encMonth = s.encMonth := rfl
@[simp] theorem issue_encDay : (issue w s).encDay = s.encDay := rfl
@[simp] theorem issue_encHour : (issue w s).encHour = s.encHour := rfl
@[simp] theorem issue_encMinute : (issue w s).encMinute = s.encMinute := rfl
@[simp] theorem issue_encSecond : (issue w s).encSecond = s.encSecond := rfl
@[simp] theorem issue_hdrRaw : (issue w s).hdrRaw = s.hdrRaw := rfl
@[simp] theorem issue_hdrOffset : (issue w s).hdrOffset = s.hdrOffset := rfl
@[simp] theorem issue_payOffset : (issue w s).payOffset = s.payOffset := rfl
@[simp] theorem issue_payLen : (issue w s).payLen = s.payLen := rfl
@[simp] theorem issue_checksum : (issue w s).checksum = s.checksum := rfl
@[simp] theorem issue_viewOffset : (issue w s).viewOffset = s.viewOffset := rfl
@[simp] theorem issue_viewLen : (issue w s).viewLen = s.viewLen := rfl
@[simp] theorem issue_tsRaw : (issue w s).tsRaw = s.tsRaw := rfl
@[simp] theorem issue_tsOffset : (issue w s).tsOffset = s.tsOffset := rfl
@[simp] theorem issue_tsOut : (issue w s).tsOut = s.tsOut := rfl
@[simp] theorem issue_ram : (issue w s).ram = s.ram := rfl
@[simp] theorem issue_bufDepth : (issue w s).bufDepth = s.bufDepth := rfl
@[simp] theorem issue_rstN : (issue w s).rstN = s.rstN := rfl
@[simp] theorem issue_bus : (issue w s).bus = s.bus := rfl
@[simp] theorem issue_inputs : (issue w s).inputs = s.inputs := rfl
@[simp] theorem issue_draws : (issue w s).draws = s.draws := rfl
@[simp] theorem issue_waited : (issue w s).waited = 0 := rfl

end issueFields

section dropWriteFields

variable (s : State)

@[simp] theorem dropWrite_irqEn : (dropWrite s).irqEn = s.irqEn := rfl
@[simp] theorem dropWrite_busy : (dropWrite s).busy = s.busy := rfl
@[simp] theorem dropWrite_done : (dropWrite s).done = s.done := rfl
@[simp] theorem dropWrite_wrBusy : (dropWrite s).wrBusy = true := rfl
@[simp] theorem dropWrite_hdrLoaded : (dropWrite s).hdrLoaded = s.hdrLoaded := rfl
@[simp] theorem dropWrite_pktLoaded : (dropWrite s).pktLoaded = s.pktLoaded := rfl
@[simp] theorem dropWrite_tsLoaded : (dropWrite s).tsLoaded = s.tsLoaded := rfl
@[simp] theorem dropWrite_viewLoaded : (dropWrite s).viewLoaded = s.viewLoaded := rfl
@[simp] theorem dropWrite_valid : (dropWrite s).valid = s.valid := rfl
@[simp] theorem dropWrite_errKind : (dropWrite s).errKind = s.errKind := rfl
@[simp] theorem dropWrite_errCause : (dropWrite s).errCause = s.errCause := rfl
@[simp] theorem dropWrite_errInfo : (dropWrite s).errInfo = s.errInfo := rfl
@[simp] theorem dropWrite_cmd : (dropWrite s).cmd = s.cmd := rfl
@[simp] theorem dropWrite_bufLen : (dropWrite s).bufLen = s.bufLen := rfl
@[simp] theorem dropWrite_argOffset : (dropWrite s).argOffset = s.argOffset := rfl
@[simp] theorem dropWrite_argLength : (dropWrite s).argLength = s.argLength := rfl
@[simp] theorem dropWrite_encYear : (dropWrite s).encYear = s.encYear := rfl
@[simp] theorem dropWrite_encMonth : (dropWrite s).encMonth = s.encMonth := rfl
@[simp] theorem dropWrite_encDay : (dropWrite s).encDay = s.encDay := rfl
@[simp] theorem dropWrite_encHour : (dropWrite s).encHour = s.encHour := rfl
@[simp] theorem dropWrite_encMinute : (dropWrite s).encMinute = s.encMinute := rfl
@[simp] theorem dropWrite_encSecond : (dropWrite s).encSecond = s.encSecond := rfl
@[simp] theorem dropWrite_hdrRaw : (dropWrite s).hdrRaw = s.hdrRaw := rfl
@[simp] theorem dropWrite_hdrOffset : (dropWrite s).hdrOffset = s.hdrOffset := rfl
@[simp] theorem dropWrite_payOffset : (dropWrite s).payOffset = s.payOffset := rfl
@[simp] theorem dropWrite_payLen : (dropWrite s).payLen = s.payLen := rfl
@[simp] theorem dropWrite_checksum : (dropWrite s).checksum = s.checksum := rfl
@[simp] theorem dropWrite_viewOffset : (dropWrite s).viewOffset = s.viewOffset := rfl
@[simp] theorem dropWrite_viewLen : (dropWrite s).viewLen = s.viewLen := rfl
@[simp] theorem dropWrite_tsRaw : (dropWrite s).tsRaw = s.tsRaw := rfl
@[simp] theorem dropWrite_tsOffset : (dropWrite s).tsOffset = s.tsOffset := rfl
@[simp] theorem dropWrite_tsOut : (dropWrite s).tsOut = s.tsOut := rfl
@[simp] theorem dropWrite_ram : (dropWrite s).ram = s.ram := rfl
@[simp] theorem dropWrite_bufDepth : (dropWrite s).bufDepth = s.bufDepth := rfl
@[simp] theorem dropWrite_rstN : (dropWrite s).rstN = s.rstN := rfl
@[simp] theorem dropWrite_bus : (dropWrite s).bus = s.bus := rfl
@[simp] theorem dropWrite_inputs : (dropWrite s).inputs = s.inputs := rfl
@[simp] theorem dropWrite_draws : (dropWrite s).draws = s.draws := rfl
@[simp] theorem dropWrite_waited : (dropWrite s).waited = s.waited := rfl

end dropWriteFields

section replyFields

variable (r : BusReply) (s : State)

@[simp] theorem reply_irqEn : (reply r s).irqEn = s.irqEn := rfl
@[simp] theorem reply_busy : (reply r s).busy = s.busy := rfl
@[simp] theorem reply_done : (reply r s).done = s.done := rfl
@[simp] theorem reply_wrBusy : (reply r s).wrBusy = s.wrBusy := rfl
@[simp] theorem reply_hdrLoaded : (reply r s).hdrLoaded = s.hdrLoaded := rfl
@[simp] theorem reply_pktLoaded : (reply r s).pktLoaded = s.pktLoaded := rfl
@[simp] theorem reply_tsLoaded : (reply r s).tsLoaded = s.tsLoaded := rfl
@[simp] theorem reply_viewLoaded : (reply r s).viewLoaded = s.viewLoaded := rfl
@[simp] theorem reply_valid : (reply r s).valid = s.valid := rfl
@[simp] theorem reply_errKind : (reply r s).errKind = s.errKind := rfl
@[simp] theorem reply_errCause : (reply r s).errCause = s.errCause := rfl
@[simp] theorem reply_errInfo : (reply r s).errInfo = s.errInfo := rfl
@[simp] theorem reply_cmd : (reply r s).cmd = s.cmd := rfl
@[simp] theorem reply_bufLen : (reply r s).bufLen = s.bufLen := rfl
@[simp] theorem reply_argOffset : (reply r s).argOffset = s.argOffset := rfl
@[simp] theorem reply_argLength : (reply r s).argLength = s.argLength := rfl
@[simp] theorem reply_encYear : (reply r s).encYear = s.encYear := rfl
@[simp] theorem reply_encMonth : (reply r s).encMonth = s.encMonth := rfl
@[simp] theorem reply_encDay : (reply r s).encDay = s.encDay := rfl
@[simp] theorem reply_encHour : (reply r s).encHour = s.encHour := rfl
@[simp] theorem reply_encMinute : (reply r s).encMinute = s.encMinute := rfl
@[simp] theorem reply_encSecond : (reply r s).encSecond = s.encSecond := rfl
@[simp] theorem reply_hdrRaw : (reply r s).hdrRaw = s.hdrRaw := rfl
@[simp] theorem reply_hdrOffset : (reply r s).hdrOffset = s.hdrOffset := rfl
@[simp] theorem reply_payOffset : (reply r s).payOffset = s.payOffset := rfl
@[simp] theorem reply_payLen : (reply r s).payLen = s.payLen := rfl
@[simp] theorem reply_checksum : (reply r s).checksum = s.checksum := rfl
@[simp] theorem reply_viewOffset : (reply r s).viewOffset = s.viewOffset := rfl
@[simp] theorem reply_viewLen : (reply r s).viewLen = s.viewLen := rfl
@[simp] theorem reply_tsRaw : (reply r s).tsRaw = s.tsRaw := rfl
@[simp] theorem reply_tsOffset : (reply r s).tsOffset = s.tsOffset := rfl
@[simp] theorem reply_tsOut : (reply r s).tsOut = s.tsOut := rfl
@[simp] theorem reply_ram : (reply r s).ram = s.ram := rfl
@[simp] theorem reply_bufDepth : (reply r s).bufDepth = s.bufDepth := rfl
@[simp] theorem reply_rstN : (reply r s).rstN = s.rstN := rfl
@[simp] theorem reply_bus : (reply r s).bus = r := rfl
@[simp] theorem reply_inputs : (reply r s).inputs = s.inputs := rfl
@[simp] theorem reply_draws : (reply r s).draws = s.draws := rfl
@[simp] theorem reply_waited : (reply r s).waited = s.waited := rfl

end replyFields

section resetElementsFields

variable (s : State)

@[simp] theorem resetElements_irqEn : (resetElements s).irqEn = false := rfl
@[simp] theorem resetElements_busy : (resetElements s).busy = false := rfl
@[simp] theorem resetElements_done : (resetElements s).done = false := rfl
@[simp] theorem resetElements_wrBusy : (resetElements s).wrBusy = false := rfl
@[simp] theorem resetElements_hdrLoaded : (resetElements s).hdrLoaded = false := rfl
@[simp] theorem resetElements_pktLoaded : (resetElements s).pktLoaded = false := rfl
@[simp] theorem resetElements_tsLoaded : (resetElements s).tsLoaded = false := rfl
@[simp] theorem resetElements_viewLoaded : (resetElements s).viewLoaded = false := rfl
@[simp] theorem resetElements_valid : (resetElements s).valid = false := rfl
@[simp] theorem resetElements_errKind : (resetElements s).errKind = 0 := rfl
@[simp] theorem resetElements_errCause : (resetElements s).errCause = 0 := rfl
@[simp] theorem resetElements_errInfo : (resetElements s).errInfo = 0 := rfl
@[simp] theorem resetElements_cmd : (resetElements s).cmd = 0 := rfl
@[simp] theorem resetElements_bufLen : (resetElements s).bufLen = 0 := rfl
@[simp] theorem resetElements_argOffset : (resetElements s).argOffset = 0 := rfl
@[simp] theorem resetElements_argLength : (resetElements s).argLength = 0 := rfl
@[simp] theorem resetElements_encYear : (resetElements s).encYear = 0 := rfl
@[simp] theorem resetElements_encMonth : (resetElements s).encMonth = 0 := rfl
@[simp] theorem resetElements_encDay : (resetElements s).encDay = 0 := rfl
@[simp] theorem resetElements_encHour : (resetElements s).encHour = 0 := rfl
@[simp] theorem resetElements_encMinute : (resetElements s).encMinute = 0 := rfl
@[simp] theorem resetElements_encSecond : (resetElements s).encSecond = 0 := rfl
@[simp] theorem resetElements_hdrRaw : (resetElements s).hdrRaw = Vector.replicate 24 0#8 := rfl
@[simp] theorem resetElements_hdrOffset : (resetElements s).hdrOffset = 0 := rfl
@[simp] theorem resetElements_payOffset : (resetElements s).payOffset = 0 := rfl
@[simp] theorem resetElements_payLen : (resetElements s).payLen = 0 := rfl
@[simp] theorem resetElements_checksum : (resetElements s).checksum = 0 := rfl
@[simp] theorem resetElements_viewOffset : (resetElements s).viewOffset = 0 := rfl
@[simp] theorem resetElements_viewLen : (resetElements s).viewLen = 0 := rfl
@[simp] theorem resetElements_tsRaw : (resetElements s).tsRaw = Vector.replicate 6 0#8 := rfl
@[simp] theorem resetElements_tsOffset : (resetElements s).tsOffset = 0 := rfl
@[simp] theorem resetElements_tsOut : (resetElements s).tsOut = Vector.replicate 6 0#8 := rfl
@[simp] theorem resetElements_ram : (resetElements s).ram = s.ram := rfl
@[simp] theorem resetElements_bufDepth : (resetElements s).bufDepth = s.bufDepth := rfl
@[simp] theorem resetElements_rstN : (resetElements s).rstN = s.rstN := rfl
@[simp] theorem resetElements_bus : (resetElements s).bus = s.bus := rfl
@[simp] theorem resetElements_inputs : (resetElements s).inputs = s.inputs := rfl
@[simp] theorem resetElements_draws : (resetElements s).draws = s.draws := rfl
@[simp] theorem resetElements_waited : (resetElements s).waited = 0 := rfl

end resetElementsFields

section commitSuccessFields

variable (i : Instr) (s : State)

@[simp] theorem commitSuccess_irqEn : (commitSuccess i s).irqEn = s.irqEn := rfl
@[simp] theorem commitSuccess_busy : (commitSuccess i s).busy = false := rfl
@[simp] theorem commitSuccess_done : (commitSuccess i s).done = true := rfl
@[simp] theorem commitSuccess_wrBusy : (commitSuccess i s).wrBusy = s.wrBusy := rfl
@[simp] theorem commitSuccess_hdrLoaded : (commitSuccess i s).hdrLoaded = s.hdrLoaded := rfl
@[simp] theorem commitSuccess_pktLoaded : (commitSuccess i s).pktLoaded = s.pktLoaded := rfl
@[simp] theorem commitSuccess_tsLoaded : (commitSuccess i s).tsLoaded = s.tsLoaded := rfl
@[simp] theorem commitSuccess_viewLoaded : (commitSuccess i s).viewLoaded = s.viewLoaded := rfl
@[simp] theorem commitSuccess_valid : (commitSuccess i s).valid = successSetsValid i := rfl
@[simp] theorem commitSuccess_errKind : (commitSuccess i s).errKind = 0 := rfl
@[simp] theorem commitSuccess_errCause : (commitSuccess i s).errCause = 0 := rfl
@[simp] theorem commitSuccess_errInfo : (commitSuccess i s).errInfo = 0 := rfl
@[simp] theorem commitSuccess_cmd : (commitSuccess i s).cmd = s.cmd := rfl
@[simp] theorem commitSuccess_bufLen : (commitSuccess i s).bufLen = s.bufLen := rfl
@[simp] theorem commitSuccess_argOffset : (commitSuccess i s).argOffset = s.argOffset := rfl
@[simp] theorem commitSuccess_argLength : (commitSuccess i s).argLength = s.argLength := rfl
@[simp] theorem commitSuccess_encYear : (commitSuccess i s).encYear = s.encYear := rfl
@[simp] theorem commitSuccess_encMonth : (commitSuccess i s).encMonth = s.encMonth := rfl
@[simp] theorem commitSuccess_encDay : (commitSuccess i s).encDay = s.encDay := rfl
@[simp] theorem commitSuccess_encHour : (commitSuccess i s).encHour = s.encHour := rfl
@[simp] theorem commitSuccess_encMinute : (commitSuccess i s).encMinute = s.encMinute := rfl
@[simp] theorem commitSuccess_encSecond : (commitSuccess i s).encSecond = s.encSecond := rfl
@[simp] theorem commitSuccess_hdrRaw : (commitSuccess i s).hdrRaw = s.hdrRaw := rfl
@[simp] theorem commitSuccess_hdrOffset : (commitSuccess i s).hdrOffset = s.hdrOffset := rfl
@[simp] theorem commitSuccess_payOffset : (commitSuccess i s).payOffset = s.payOffset := rfl
@[simp] theorem commitSuccess_payLen : (commitSuccess i s).payLen = s.payLen := rfl
@[simp] theorem commitSuccess_checksum : (commitSuccess i s).checksum = s.checksum := rfl
@[simp] theorem commitSuccess_viewOffset : (commitSuccess i s).viewOffset = s.viewOffset := rfl
@[simp] theorem commitSuccess_viewLen : (commitSuccess i s).viewLen = s.viewLen := rfl
@[simp] theorem commitSuccess_tsRaw : (commitSuccess i s).tsRaw = s.tsRaw := rfl
@[simp] theorem commitSuccess_tsOffset : (commitSuccess i s).tsOffset = s.tsOffset := rfl
@[simp] theorem commitSuccess_tsOut : (commitSuccess i s).tsOut = s.tsOut := rfl
@[simp] theorem commitSuccess_ram : (commitSuccess i s).ram = s.ram := rfl
@[simp] theorem commitSuccess_bufDepth : (commitSuccess i s).bufDepth = s.bufDepth := rfl
@[simp] theorem commitSuccess_rstN : (commitSuccess i s).rstN = s.rstN := rfl
@[simp] theorem commitSuccess_bus : (commitSuccess i s).bus = s.bus := rfl
@[simp] theorem commitSuccess_inputs : (commitSuccess i s).inputs = s.inputs := rfl
@[simp] theorem commitSuccess_draws : (commitSuccess i s).draws = s.draws := rfl
@[simp] theorem commitSuccess_waited : (commitSuccess i s).waited = s.waited := rfl

end commitSuccessFields

section commitFailureFields

variable (i : Instr) (c : Cause) (info : Word) (s : State)

@[simp] theorem commitFailure_irqEn : (commitFailure i c info s).irqEn = s.irqEn := rfl
@[simp] theorem commitFailure_busy : (commitFailure i c info s).busy = false := rfl
@[simp] theorem commitFailure_done : (commitFailure i c info s).done = true := rfl
@[simp] theorem commitFailure_wrBusy : (commitFailure i c info s).wrBusy = s.wrBusy := rfl
@[simp] theorem commitFailure_hdrLoaded : (commitFailure i c info s).hdrLoaded = (s.hdrLoaded && !failClearsHeader i) := rfl
@[simp] theorem commitFailure_pktLoaded : (commitFailure i c info s).pktLoaded = (s.pktLoaded && !failClearsHeader i) := rfl
@[simp] theorem commitFailure_tsLoaded : (commitFailure i c info s).tsLoaded = (s.tsLoaded && !failClearsTs i) := rfl
@[simp] theorem commitFailure_viewLoaded : (commitFailure i c info s).viewLoaded = (s.viewLoaded && !failClearsView i) := rfl
@[simp] theorem commitFailure_valid : (commitFailure i c info s).valid = false := rfl
@[simp] theorem commitFailure_errKind : (commitFailure i c info s).errKind = c.kind.code := rfl
@[simp] theorem commitFailure_errCause : (commitFailure i c info s).errCause = c.code := rfl
@[simp] theorem commitFailure_errInfo : (commitFailure i c info s).errInfo = info := rfl
@[simp] theorem commitFailure_cmd : (commitFailure i c info s).cmd = s.cmd := rfl
@[simp] theorem commitFailure_bufLen : (commitFailure i c info s).bufLen = s.bufLen := rfl
@[simp] theorem commitFailure_argOffset : (commitFailure i c info s).argOffset = s.argOffset := rfl
@[simp] theorem commitFailure_argLength : (commitFailure i c info s).argLength = s.argLength := rfl
@[simp] theorem commitFailure_encYear : (commitFailure i c info s).encYear = s.encYear := rfl
@[simp] theorem commitFailure_encMonth : (commitFailure i c info s).encMonth = s.encMonth := rfl
@[simp] theorem commitFailure_encDay : (commitFailure i c info s).encDay = s.encDay := rfl
@[simp] theorem commitFailure_encHour : (commitFailure i c info s).encHour = s.encHour := rfl
@[simp] theorem commitFailure_encMinute : (commitFailure i c info s).encMinute = s.encMinute := rfl
@[simp] theorem commitFailure_encSecond : (commitFailure i c info s).encSecond = s.encSecond := rfl
@[simp] theorem commitFailure_hdrRaw : (commitFailure i c info s).hdrRaw = s.hdrRaw := rfl
@[simp] theorem commitFailure_hdrOffset : (commitFailure i c info s).hdrOffset = s.hdrOffset := rfl
@[simp] theorem commitFailure_payOffset : (commitFailure i c info s).payOffset = s.payOffset := rfl
@[simp] theorem commitFailure_payLen : (commitFailure i c info s).payLen = s.payLen := rfl
@[simp] theorem commitFailure_checksum : (commitFailure i c info s).checksum = s.checksum := rfl
@[simp] theorem commitFailure_viewOffset : (commitFailure i c info s).viewOffset = s.viewOffset := rfl
@[simp] theorem commitFailure_viewLen : (commitFailure i c info s).viewLen = s.viewLen := rfl
@[simp] theorem commitFailure_tsRaw : (commitFailure i c info s).tsRaw = s.tsRaw := rfl
@[simp] theorem commitFailure_tsOffset : (commitFailure i c info s).tsOffset = s.tsOffset := rfl
@[simp] theorem commitFailure_tsOut : (commitFailure i c info s).tsOut = s.tsOut := rfl
@[simp] theorem commitFailure_ram : (commitFailure i c info s).ram = s.ram := rfl
@[simp] theorem commitFailure_bufDepth : (commitFailure i c info s).bufDepth = s.bufDepth := rfl
@[simp] theorem commitFailure_rstN : (commitFailure i c info s).rstN = s.rstN := rfl
@[simp] theorem commitFailure_bus : (commitFailure i c info s).bus = s.bus := rfl
@[simp] theorem commitFailure_inputs : (commitFailure i c info s).inputs = s.inputs := rfl
@[simp] theorem commitFailure_draws : (commitFailure i c info s).draws = s.draws := rfl
@[simp] theorem commitFailure_waited : (commitFailure i c info s).waited = s.waited := rfl

end commitFailureFields

section writeStatusFields

variable (w : Word) (s : State)

@[simp] theorem writeStatus_irqEn : (writeStatus w s).irqEn = s.irqEn := rfl
@[simp] theorem writeStatus_busy : (writeStatus w s).busy = s.busy := rfl
@[simp] theorem writeStatus_done : (writeStatus w s).done = (s.done && !w[1]) := rfl
@[simp] theorem writeStatus_wrBusy : (writeStatus w s).wrBusy = (s.wrBusy && !w[9]) := rfl
@[simp] theorem writeStatus_hdrLoaded : (writeStatus w s).hdrLoaded = s.hdrLoaded := rfl
@[simp] theorem writeStatus_pktLoaded : (writeStatus w s).pktLoaded = s.pktLoaded := rfl
@[simp] theorem writeStatus_tsLoaded : (writeStatus w s).tsLoaded = s.tsLoaded := rfl
@[simp] theorem writeStatus_viewLoaded : (writeStatus w s).viewLoaded = s.viewLoaded := rfl
@[simp] theorem writeStatus_valid : (writeStatus w s).valid = s.valid := rfl
@[simp] theorem writeStatus_errKind : (writeStatus w s).errKind = s.errKind := rfl
@[simp] theorem writeStatus_errCause : (writeStatus w s).errCause = s.errCause := rfl
@[simp] theorem writeStatus_errInfo : (writeStatus w s).errInfo = s.errInfo := rfl
@[simp] theorem writeStatus_cmd : (writeStatus w s).cmd = s.cmd := rfl
@[simp] theorem writeStatus_bufLen : (writeStatus w s).bufLen = s.bufLen := rfl
@[simp] theorem writeStatus_argOffset : (writeStatus w s).argOffset = s.argOffset := rfl
@[simp] theorem writeStatus_argLength : (writeStatus w s).argLength = s.argLength := rfl
@[simp] theorem writeStatus_encYear : (writeStatus w s).encYear = s.encYear := rfl
@[simp] theorem writeStatus_encMonth : (writeStatus w s).encMonth = s.encMonth := rfl
@[simp] theorem writeStatus_encDay : (writeStatus w s).encDay = s.encDay := rfl
@[simp] theorem writeStatus_encHour : (writeStatus w s).encHour = s.encHour := rfl
@[simp] theorem writeStatus_encMinute : (writeStatus w s).encMinute = s.encMinute := rfl
@[simp] theorem writeStatus_encSecond : (writeStatus w s).encSecond = s.encSecond := rfl
@[simp] theorem writeStatus_hdrRaw : (writeStatus w s).hdrRaw = s.hdrRaw := rfl
@[simp] theorem writeStatus_hdrOffset : (writeStatus w s).hdrOffset = s.hdrOffset := rfl
@[simp] theorem writeStatus_payOffset : (writeStatus w s).payOffset = s.payOffset := rfl
@[simp] theorem writeStatus_payLen : (writeStatus w s).payLen = s.payLen := rfl
@[simp] theorem writeStatus_checksum : (writeStatus w s).checksum = s.checksum := rfl
@[simp] theorem writeStatus_viewOffset : (writeStatus w s).viewOffset = s.viewOffset := rfl
@[simp] theorem writeStatus_viewLen : (writeStatus w s).viewLen = s.viewLen := rfl
@[simp] theorem writeStatus_tsRaw : (writeStatus w s).tsRaw = s.tsRaw := rfl
@[simp] theorem writeStatus_tsOffset : (writeStatus w s).tsOffset = s.tsOffset := rfl
@[simp] theorem writeStatus_tsOut : (writeStatus w s).tsOut = s.tsOut := rfl
@[simp] theorem writeStatus_ram : (writeStatus w s).ram = s.ram := rfl
@[simp] theorem writeStatus_bufDepth : (writeStatus w s).bufDepth = s.bufDepth := rfl
@[simp] theorem writeStatus_rstN : (writeStatus w s).rstN = s.rstN := rfl
@[simp] theorem writeStatus_bus : (writeStatus w s).bus = s.bus := rfl
@[simp] theorem writeStatus_inputs : (writeStatus w s).inputs = s.inputs := rfl
@[simp] theorem writeStatus_draws : (writeStatus w s).draws = s.draws := rfl
@[simp] theorem writeStatus_waited : (writeStatus w s).waited = s.waited := rfl

end writeStatusFields

section writeBufLenFields

variable (w : Word) (s : State)

@[simp] theorem writeBufLen_irqEn : (writeBufLen w s).irqEn = s.irqEn := rfl
@[simp] theorem writeBufLen_busy : (writeBufLen w s).busy = s.busy := rfl
@[simp] theorem writeBufLen_done : (writeBufLen w s).done = s.done := rfl
@[simp] theorem writeBufLen_wrBusy : (writeBufLen w s).wrBusy = s.wrBusy := rfl
@[simp] theorem writeBufLen_hdrLoaded : (writeBufLen w s).hdrLoaded = false := rfl
@[simp] theorem writeBufLen_pktLoaded : (writeBufLen w s).pktLoaded = false := rfl
@[simp] theorem writeBufLen_tsLoaded : (writeBufLen w s).tsLoaded = false := rfl
@[simp] theorem writeBufLen_viewLoaded : (writeBufLen w s).viewLoaded = false := rfl
@[simp] theorem writeBufLen_valid : (writeBufLen w s).valid = s.valid := rfl
@[simp] theorem writeBufLen_errKind : (writeBufLen w s).errKind = s.errKind := rfl
@[simp] theorem writeBufLen_errCause : (writeBufLen w s).errCause = s.errCause := rfl
@[simp] theorem writeBufLen_errInfo : (writeBufLen w s).errInfo = s.errInfo := rfl
@[simp] theorem writeBufLen_cmd : (writeBufLen w s).cmd = s.cmd := rfl
@[simp] theorem writeBufLen_bufLen : (writeBufLen w s).bufLen = BitVec.ofNat 32 (min w.toNat s.bufDepth) := rfl
@[simp] theorem writeBufLen_argOffset : (writeBufLen w s).argOffset = s.argOffset := rfl
@[simp] theorem writeBufLen_argLength : (writeBufLen w s).argLength = s.argLength := rfl
@[simp] theorem writeBufLen_encYear : (writeBufLen w s).encYear = s.encYear := rfl
@[simp] theorem writeBufLen_encMonth : (writeBufLen w s).encMonth = s.encMonth := rfl
@[simp] theorem writeBufLen_encDay : (writeBufLen w s).encDay = s.encDay := rfl
@[simp] theorem writeBufLen_encHour : (writeBufLen w s).encHour = s.encHour := rfl
@[simp] theorem writeBufLen_encMinute : (writeBufLen w s).encMinute = s.encMinute := rfl
@[simp] theorem writeBufLen_encSecond : (writeBufLen w s).encSecond = s.encSecond := rfl
@[simp] theorem writeBufLen_hdrRaw : (writeBufLen w s).hdrRaw = s.hdrRaw := rfl
@[simp] theorem writeBufLen_hdrOffset : (writeBufLen w s).hdrOffset = s.hdrOffset := rfl
@[simp] theorem writeBufLen_payOffset : (writeBufLen w s).payOffset = s.payOffset := rfl
@[simp] theorem writeBufLen_payLen : (writeBufLen w s).payLen = s.payLen := rfl
@[simp] theorem writeBufLen_checksum : (writeBufLen w s).checksum = s.checksum := rfl
@[simp] theorem writeBufLen_viewOffset : (writeBufLen w s).viewOffset = s.viewOffset := rfl
@[simp] theorem writeBufLen_viewLen : (writeBufLen w s).viewLen = s.viewLen := rfl
@[simp] theorem writeBufLen_tsRaw : (writeBufLen w s).tsRaw = s.tsRaw := rfl
@[simp] theorem writeBufLen_tsOffset : (writeBufLen w s).tsOffset = s.tsOffset := rfl
@[simp] theorem writeBufLen_tsOut : (writeBufLen w s).tsOut = s.tsOut := rfl
@[simp] theorem writeBufLen_ram : (writeBufLen w s).ram = s.ram := rfl
@[simp] theorem writeBufLen_bufDepth : (writeBufLen w s).bufDepth = s.bufDepth := rfl
@[simp] theorem writeBufLen_rstN : (writeBufLen w s).rstN = s.rstN := rfl
@[simp] theorem writeBufLen_bus : (writeBufLen w s).bus = s.bus := rfl
@[simp] theorem writeBufLen_inputs : (writeBufLen w s).inputs = s.inputs := rfl
@[simp] theorem writeBufLen_draws : (writeBufLen w s).draws = s.draws := rfl
@[simp] theorem writeBufLen_waited : (writeBufLen w s).waited = s.waited := rfl

end writeBufLenFields

section writeEncDateFields

variable (w : Word) (s : State)

@[simp] theorem writeEncDate_irqEn : (writeEncDate w s).irqEn = s.irqEn := rfl
@[simp] theorem writeEncDate_busy : (writeEncDate w s).busy = s.busy := rfl
@[simp] theorem writeEncDate_done : (writeEncDate w s).done = s.done := rfl
@[simp] theorem writeEncDate_wrBusy : (writeEncDate w s).wrBusy = s.wrBusy := rfl
@[simp] theorem writeEncDate_hdrLoaded : (writeEncDate w s).hdrLoaded = s.hdrLoaded := rfl
@[simp] theorem writeEncDate_pktLoaded : (writeEncDate w s).pktLoaded = s.pktLoaded := rfl
@[simp] theorem writeEncDate_tsLoaded : (writeEncDate w s).tsLoaded = s.tsLoaded := rfl
@[simp] theorem writeEncDate_viewLoaded : (writeEncDate w s).viewLoaded = s.viewLoaded := rfl
@[simp] theorem writeEncDate_valid : (writeEncDate w s).valid = s.valid := rfl
@[simp] theorem writeEncDate_errKind : (writeEncDate w s).errKind = s.errKind := rfl
@[simp] theorem writeEncDate_errCause : (writeEncDate w s).errCause = s.errCause := rfl
@[simp] theorem writeEncDate_errInfo : (writeEncDate w s).errInfo = s.errInfo := rfl
@[simp] theorem writeEncDate_cmd : (writeEncDate w s).cmd = s.cmd := rfl
@[simp] theorem writeEncDate_bufLen : (writeEncDate w s).bufLen = s.bufLen := rfl
@[simp] theorem writeEncDate_argOffset : (writeEncDate w s).argOffset = s.argOffset := rfl
@[simp] theorem writeEncDate_argLength : (writeEncDate w s).argLength = s.argLength := rfl
@[simp] theorem writeEncDate_encYear : (writeEncDate w s).encYear = w.extractLsb' 0 16 := rfl
@[simp] theorem writeEncDate_encMonth : (writeEncDate w s).encMonth = w.extractLsb' 16 8 := rfl
@[simp] theorem writeEncDate_encDay : (writeEncDate w s).encDay = w.extractLsb' 24 8 := rfl
@[simp] theorem writeEncDate_encHour : (writeEncDate w s).encHour = s.encHour := rfl
@[simp] theorem writeEncDate_encMinute : (writeEncDate w s).encMinute = s.encMinute := rfl
@[simp] theorem writeEncDate_encSecond : (writeEncDate w s).encSecond = s.encSecond := rfl
@[simp] theorem writeEncDate_hdrRaw : (writeEncDate w s).hdrRaw = s.hdrRaw := rfl
@[simp] theorem writeEncDate_hdrOffset : (writeEncDate w s).hdrOffset = s.hdrOffset := rfl
@[simp] theorem writeEncDate_payOffset : (writeEncDate w s).payOffset = s.payOffset := rfl
@[simp] theorem writeEncDate_payLen : (writeEncDate w s).payLen = s.payLen := rfl
@[simp] theorem writeEncDate_checksum : (writeEncDate w s).checksum = s.checksum := rfl
@[simp] theorem writeEncDate_viewOffset : (writeEncDate w s).viewOffset = s.viewOffset := rfl
@[simp] theorem writeEncDate_viewLen : (writeEncDate w s).viewLen = s.viewLen := rfl
@[simp] theorem writeEncDate_tsRaw : (writeEncDate w s).tsRaw = s.tsRaw := rfl
@[simp] theorem writeEncDate_tsOffset : (writeEncDate w s).tsOffset = s.tsOffset := rfl
@[simp] theorem writeEncDate_tsOut : (writeEncDate w s).tsOut = s.tsOut := rfl
@[simp] theorem writeEncDate_ram : (writeEncDate w s).ram = s.ram := rfl
@[simp] theorem writeEncDate_bufDepth : (writeEncDate w s).bufDepth = s.bufDepth := rfl
@[simp] theorem writeEncDate_rstN : (writeEncDate w s).rstN = s.rstN := rfl
@[simp] theorem writeEncDate_bus : (writeEncDate w s).bus = s.bus := rfl
@[simp] theorem writeEncDate_inputs : (writeEncDate w s).inputs = s.inputs := rfl
@[simp] theorem writeEncDate_draws : (writeEncDate w s).draws = s.draws := rfl
@[simp] theorem writeEncDate_waited : (writeEncDate w s).waited = s.waited := rfl

end writeEncDateFields

section writeEncTimeFields

variable (w : Word) (s : State)

@[simp] theorem writeEncTime_irqEn : (writeEncTime w s).irqEn = s.irqEn := rfl
@[simp] theorem writeEncTime_busy : (writeEncTime w s).busy = s.busy := rfl
@[simp] theorem writeEncTime_done : (writeEncTime w s).done = s.done := rfl
@[simp] theorem writeEncTime_wrBusy : (writeEncTime w s).wrBusy = s.wrBusy := rfl
@[simp] theorem writeEncTime_hdrLoaded : (writeEncTime w s).hdrLoaded = s.hdrLoaded := rfl
@[simp] theorem writeEncTime_pktLoaded : (writeEncTime w s).pktLoaded = s.pktLoaded := rfl
@[simp] theorem writeEncTime_tsLoaded : (writeEncTime w s).tsLoaded = s.tsLoaded := rfl
@[simp] theorem writeEncTime_viewLoaded : (writeEncTime w s).viewLoaded = s.viewLoaded := rfl
@[simp] theorem writeEncTime_valid : (writeEncTime w s).valid = s.valid := rfl
@[simp] theorem writeEncTime_errKind : (writeEncTime w s).errKind = s.errKind := rfl
@[simp] theorem writeEncTime_errCause : (writeEncTime w s).errCause = s.errCause := rfl
@[simp] theorem writeEncTime_errInfo : (writeEncTime w s).errInfo = s.errInfo := rfl
@[simp] theorem writeEncTime_cmd : (writeEncTime w s).cmd = s.cmd := rfl
@[simp] theorem writeEncTime_bufLen : (writeEncTime w s).bufLen = s.bufLen := rfl
@[simp] theorem writeEncTime_argOffset : (writeEncTime w s).argOffset = s.argOffset := rfl
@[simp] theorem writeEncTime_argLength : (writeEncTime w s).argLength = s.argLength := rfl
@[simp] theorem writeEncTime_encYear : (writeEncTime w s).encYear = s.encYear := rfl
@[simp] theorem writeEncTime_encMonth : (writeEncTime w s).encMonth = s.encMonth := rfl
@[simp] theorem writeEncTime_encDay : (writeEncTime w s).encDay = s.encDay := rfl
@[simp] theorem writeEncTime_encHour : (writeEncTime w s).encHour = w.extractLsb' 0 8 := rfl
@[simp] theorem writeEncTime_encMinute : (writeEncTime w s).encMinute = w.extractLsb' 8 8 := rfl
@[simp] theorem writeEncTime_encSecond : (writeEncTime w s).encSecond = w.extractLsb' 16 8 := rfl
@[simp] theorem writeEncTime_hdrRaw : (writeEncTime w s).hdrRaw = s.hdrRaw := rfl
@[simp] theorem writeEncTime_hdrOffset : (writeEncTime w s).hdrOffset = s.hdrOffset := rfl
@[simp] theorem writeEncTime_payOffset : (writeEncTime w s).payOffset = s.payOffset := rfl
@[simp] theorem writeEncTime_payLen : (writeEncTime w s).payLen = s.payLen := rfl
@[simp] theorem writeEncTime_checksum : (writeEncTime w s).checksum = s.checksum := rfl
@[simp] theorem writeEncTime_viewOffset : (writeEncTime w s).viewOffset = s.viewOffset := rfl
@[simp] theorem writeEncTime_viewLen : (writeEncTime w s).viewLen = s.viewLen := rfl
@[simp] theorem writeEncTime_tsRaw : (writeEncTime w s).tsRaw = s.tsRaw := rfl
@[simp] theorem writeEncTime_tsOffset : (writeEncTime w s).tsOffset = s.tsOffset := rfl
@[simp] theorem writeEncTime_tsOut : (writeEncTime w s).tsOut = s.tsOut := rfl
@[simp] theorem writeEncTime_ram : (writeEncTime w s).ram = s.ram := rfl
@[simp] theorem writeEncTime_bufDepth : (writeEncTime w s).bufDepth = s.bufDepth := rfl
@[simp] theorem writeEncTime_rstN : (writeEncTime w s).rstN = s.rstN := rfl
@[simp] theorem writeEncTime_bus : (writeEncTime w s).bus = s.bus := rfl
@[simp] theorem writeEncTime_inputs : (writeEncTime w s).inputs = s.inputs := rfl
@[simp] theorem writeEncTime_draws : (writeEncTime w s).draws = s.draws := rfl
@[simp] theorem writeEncTime_waited : (writeEncTime w s).waited = s.waited := rfl

end writeEncTimeFields

section writeWindowFields

variable (i : Nat) (w : Word) (s : State)

@[simp] theorem writeWindow_irqEn : (writeWindow i w s).irqEn = s.irqEn := rfl
@[simp] theorem writeWindow_busy : (writeWindow i w s).busy = s.busy := rfl
@[simp] theorem writeWindow_done : (writeWindow i w s).done = s.done := rfl
@[simp] theorem writeWindow_wrBusy : (writeWindow i w s).wrBusy = s.wrBusy := rfl
@[simp] theorem writeWindow_hdrLoaded : (writeWindow i w s).hdrLoaded = false := rfl
@[simp] theorem writeWindow_pktLoaded : (writeWindow i w s).pktLoaded = false := rfl
@[simp] theorem writeWindow_tsLoaded : (writeWindow i w s).tsLoaded = false := rfl
@[simp] theorem writeWindow_viewLoaded : (writeWindow i w s).viewLoaded = false := rfl
@[simp] theorem writeWindow_valid : (writeWindow i w s).valid = s.valid := rfl
@[simp] theorem writeWindow_errKind : (writeWindow i w s).errKind = s.errKind := rfl
@[simp] theorem writeWindow_errCause : (writeWindow i w s).errCause = s.errCause := rfl
@[simp] theorem writeWindow_errInfo : (writeWindow i w s).errInfo = s.errInfo := rfl
@[simp] theorem writeWindow_cmd : (writeWindow i w s).cmd = s.cmd := rfl
@[simp] theorem writeWindow_bufLen : (writeWindow i w s).bufLen = s.bufLen := rfl
@[simp] theorem writeWindow_argOffset : (writeWindow i w s).argOffset = s.argOffset := rfl
@[simp] theorem writeWindow_argLength : (writeWindow i w s).argLength = s.argLength := rfl
@[simp] theorem writeWindow_encYear : (writeWindow i w s).encYear = s.encYear := rfl
@[simp] theorem writeWindow_encMonth : (writeWindow i w s).encMonth = s.encMonth := rfl
@[simp] theorem writeWindow_encDay : (writeWindow i w s).encDay = s.encDay := rfl
@[simp] theorem writeWindow_encHour : (writeWindow i w s).encHour = s.encHour := rfl
@[simp] theorem writeWindow_encMinute : (writeWindow i w s).encMinute = s.encMinute := rfl
@[simp] theorem writeWindow_encSecond : (writeWindow i w s).encSecond = s.encSecond := rfl
@[simp] theorem writeWindow_hdrRaw : (writeWindow i w s).hdrRaw = s.hdrRaw := rfl
@[simp] theorem writeWindow_hdrOffset : (writeWindow i w s).hdrOffset = s.hdrOffset := rfl
@[simp] theorem writeWindow_payOffset : (writeWindow i w s).payOffset = s.payOffset := rfl
@[simp] theorem writeWindow_payLen : (writeWindow i w s).payLen = s.payLen := rfl
@[simp] theorem writeWindow_checksum : (writeWindow i w s).checksum = s.checksum := rfl
@[simp] theorem writeWindow_viewOffset : (writeWindow i w s).viewOffset = s.viewOffset := rfl
@[simp] theorem writeWindow_viewLen : (writeWindow i w s).viewLen = s.viewLen := rfl
@[simp] theorem writeWindow_tsRaw : (writeWindow i w s).tsRaw = s.tsRaw := rfl
@[simp] theorem writeWindow_tsOffset : (writeWindow i w s).tsOffset = s.tsOffset := rfl
@[simp] theorem writeWindow_tsOut : (writeWindow i w s).tsOut = s.tsOut := rfl
@[simp] theorem writeWindow_ram : (writeWindow i w s).ram = s.ram.write i (w.extractLsb' 0 8) := rfl
@[simp] theorem writeWindow_bufDepth : (writeWindow i w s).bufDepth = s.bufDepth := rfl
@[simp] theorem writeWindow_rstN : (writeWindow i w s).rstN = s.rstN := rfl
@[simp] theorem writeWindow_bus : (writeWindow i w s).bus = s.bus := rfl
@[simp] theorem writeWindow_inputs : (writeWindow i w s).inputs = s.inputs := rfl
@[simp] theorem writeWindow_draws : (writeWindow i w s).draws = s.draws := rfl
@[simp] theorem writeWindow_waited : (writeWindow i w s).waited = s.waited := rfl

end writeWindowFields

end Sys2Proof.Machine
end

