-- ==== Sys2Proof/Laws/Ops.lean ====
section
/-! SUPPORT. What each shared operation can do, once: a proof cites these and does not unfold the operation. -/

namespace Sys2Proof.Machine

/-- The end of a completion step is one of the two commits, and always a next state. -/
theorem commit_cases {i : Instr} {v : Verdict} {s t : State} (h : commit i v s = .next t) :
    (∃ u, v = .success u ∧ t = commitSuccess i u) ∨ (∃ c info, v = .fail c info ∧ t = commitFailure i c info s) := by
  cases v with
  | success u => exact .inl ⟨u, rfl, by injection h with h; exact h.symm⟩
  | fail c info => exact .inr ⟨c, info, rfl, by injection h with h; exact h.symm⟩

theorem commit_next (i : Instr) (v : Verdict) (s : State) : ∃ t, commit i v s = .next t := by
  cases v <;> exact ⟨_, rfl⟩

theorem viewVerdict_cases (s : State) :
    (offsetArg s + lengthArg s ≤ bufferLen s ∧
      viewVerdict s = .success { s with viewOffset := s.argOffset, viewLen := s.argLength, viewLoaded := true }) ∨
    (bufferLen s < offsetArg s + lengthArg s ∧
      viewVerdict s = .fail .dataTooSmall (sat32 (offsetArg s + lengthArg s))) := by
  by_cases h : offsetArg s + lengthArg s ≤ bufferLen s
  · exact .inl ⟨h, by simp [viewVerdict, inBounds, h]⟩
  · exact .inr ⟨not_le.1 h, by simp [viewVerdict, inBounds, h]⟩

theorem hdrParseVerdict_cases (s : State) :
    (bufferLen s < offsetArg s + 24 ∧
      hdrParseVerdict s = .fail .dataSizeTooSmall (sat32 (offsetArg s + 24))) ∨
    (offsetArg s + 24 ≤ bufferLen s ∧
      hdrParseVerdict s = .success { s with
        hdrRaw := (memRead s.ram (offsetArg s) s.draws 24).1, hdrOffset := s.argOffset,
        hdrLoaded := true, pktLoaded := false, draws := (memRead s.ram (offsetArg s) s.draws 24).2 }) := by
  by_cases h : bufferLen s < offsetArg s + 24
  · exact .inl ⟨h, by simp [hdrParseVerdict, headerTooShort, h]⟩
  · exact .inr ⟨not_lt.1 h, by simp [hdrParseVerdict, headerTooShort, h]⟩

theorem checkVerdict_cases (s : State) :
    (headerCheck s.hdrRaw = none ∧ checkVerdict s = .success s) ∨
    (∃ c info, headerCheck s.hdrRaw = some (c, info) ∧ checkVerdict s = .fail c info) := by
  unfold checkVerdict
  rcases headerCheck s.hdrRaw with _ | ⟨c, info⟩
  · exact .inl ⟨rfl, rfl⟩
  · exact .inr ⟨c, info, rfl, rfl⟩

theorem hdrValidateVerdict_cases (s : State) :
    (s.hdrLoaded = false ∧ hdrValidateVerdict s = .fail .noHeader 0) ∨
    (s.hdrLoaded = true ∧ hdrValidateVerdict s = checkVerdict s) := by
  cases h : s.hdrLoaded <;> simp [hdrValidateVerdict, h]

theorem pktValidateVerdict_cases (s : State) :
    (s.pktLoaded = false ∧ pktValidateVerdict s = .fail .noPacket 0) ∨
    (s.pktLoaded = true ∧ pktValidateVerdict s = checkVerdict s) := by
  cases h : s.pktLoaded <;> simp [pktValidateVerdict, h]

/-- The state a successful `PKT_PARSE` commits from. -/
def pktParsed (s : State) : State :=
  let h := memRead s.ram (offsetArg s) s.draws 24
  let c := readByte s.ram (bufferLen s - 1) h.2
  { s with
    hdrRaw := h.1, hdrOffset := s.argOffset,
    payOffset := BitVec.ofNat 32 (offsetArg s + 24), payLen := BitVec.ofNat 32 (bufferLen s - offsetArg s - 25),
    checksum := c.1, hdrLoaded := true, pktLoaded := true, draws := c.2 }

theorem pktParseVerdict_cases (s : State) :
    (bufferLen s < offsetArg s + 24 ∧ pktParseVerdict s = .fail .dataSizeTooSmall (sat32 (offsetArg s + 24))) ∨
    (bufferLen s = offsetArg s + 24 ∧ pktParseVerdict s = .fail .dataTooSmall (sat32 (offsetArg s + 25))) ∨
    (offsetArg s + 25 ≤ bufferLen s ∧ pktParseVerdict s = .success (pktParsed s)) := by
  by_cases h : bufferLen s < offsetArg s + 24
  · exact .inl ⟨h, by simp [pktParseVerdict, headerTooShort, h]⟩
  · by_cases h2 : bufferLen s = offsetArg s + 24
    · refine .inr (.inl ⟨h2, ?_⟩)
      have : payloadLen s < 0 := by unfold payloadLen; omega
      simp [pktParseVerdict, headerTooShort, h, this]
    · have h3 : offsetArg s + 25 ≤ bufferLen s := by omega
      refine .inr (.inr ⟨h3, ?_⟩)
      have hp : payloadLen s = ((bufferLen s - offsetArg s - 25 : Nat) : Int) := by unfold payloadLen; omega
      have hb : inBounds s (offsetArg s + 24) (payloadLen s).toNat = true := by
        simp only [inBounds, decide_eq_true_eq, hp, Int.toNat_natCast]; omega
      have hn : ¬payloadLen s < 0 := by omega
      simp [pktParseVerdict, pktParsed, headerTooShort, h, hb, hn]
      simp [hp]

theorem tsDecodeVerdict_cases (s : State) :
    (offsetArg s + 6 ≤ bufferLen s ∧
      tsDecodeVerdict s = .success { s with
        tsRaw := (memRead s.ram (offsetArg s) s.draws 6).1, tsOffset := s.argOffset,
        tsLoaded := true, draws := (memRead s.ram (offsetArg s) s.draws 6).2 }) ∨
    (bufferLen s < offsetArg s + 6 ∧ tsDecodeVerdict s = .fail .dataTooSmall (sat32 (offsetArg s + 6))) := by
  by_cases h : offsetArg s + 6 ≤ bufferLen s
  · exact .inl ⟨h, by simp [tsDecodeVerdict, inBounds, h]⟩
  · exact .inr ⟨not_le.1 h, by simp [tsDecodeVerdict, inBounds, h]⟩

/-- A write that needs the engine idle is dropped or accepted. -/
theorem whenIdle_cases (s u : State) :
    (s.busy = true ∧ whenIdle s u = dropWrite s) ∨ (s.busy = false ∧ whenIdle s u = u) := by
  cases h : s.busy <;> simp [whenIdle, h]

/-- A write to `CTRL` resets or sets the interrupt enable. -/
theorem writeCtrl_cases (w : Word) (s : State) :
    (w[1] = true ∧ writeCtrl w s = resetElements s) ∨
    (w[1] = false ∧ writeCtrl w s = { s with irqEn := w[0] }) := by
  by_cases h : w[1] = true <;> simp [writeCtrl, h]

/-- What a host write can do, by what its address names. -/
theorem busWrite_cases (a : Addr) (w : Word) (s : State) :
    (s.rstN = false ∧ busWrite a w s = reply (.wrote .error) s) ∨
    (s.rstN = true ∧ decodeAddr s.bufDepth a = .unmapped ∧ busWrite a w s = reply (.wrote .error) s) ∨
    (∃ r, s.rstN = true ∧ decodeAddr s.bufDepth a = .reg r ∧ busWrite a w s = reply (.wrote .okay) (writeReg r w s)) ∨
    (∃ i, s.rstN = true ∧ decodeAddr s.bufDepth a = .window i ∧
      busWrite a w s = reply (.wrote .okay) (whenIdle s (writeWindow i w s))) := by
  unfold busWrite
  cases s.rstN
  · simp
  · cases decodeAddr s.bufDepth a <;> simp

/-- What a host read can do: the reply changes, and at most the count of drawn bytes. -/
theorem busRead_cases (a : Addr) (s : State) :
    (s.rstN = false ∧ busRead a s = reply (.read .error 0) s) ∨
    (s.rstN = true ∧ decodeAddr s.bufDepth a = .unmapped ∧ busRead a s = reply (.read .error 0) s) ∨
    (∃ r, s.rstN = true ∧ decodeAddr s.bufDepth a = .reg r ∧ busRead a s = reply (.read .okay (readReg r s)) s) ∨
    (∃ i, s.rstN = true ∧ decodeAddr s.bufDepth a = .window i ∧
      busRead a s = reply (.read .okay ((readByte s.ram i s.draws).1.setWidth 32))
        { s with draws := (readByte s.ram i s.draws).2 }) := by
  unfold busRead
  cases s.rstN
  · simp
  · cases decodeAddr s.bufDepth a <;> simp

/-- A RAM index that the address map names exists. -/
theorem decodeAddr_window_lt {d : Nat} {a : Addr} {i : Nat} (h : decodeAddr d a = .window i) : i < d := by
  unfold decodeAddr at h
  split_ifs at h with h1 h2 h3 h4
  · split at h <;> cases h
  · injection h with h; omega

theorem engineTurn_cases (s : State) :
    (engineEnabled s = true ∧ engineTurn s = complete s) ∨ (engineEnabled s = false ∧ engineTurn s = .next s) := by
  cases h : engineEnabled s <;> simp [engineTurn, h]

theorem clockCycle_cases (s : State) :
    (engineEnabled s = false ∧ clockCycle s = .next s) ∨
    (engineEnabled s = true ∧ s.waited + 1 < Config.maxLatency ∧
      clockCycle s = .next { s with waited := s.waited + 1 }) ∨
    (engineEnabled s = true ∧ Config.maxLatency ≤ s.waited + 1 ∧ clockCycle s = complete s) := by
  unfold clockCycle
  cases engineEnabled s
  · simp
  · by_cases h : s.waited + 1 < Config.maxLatency
    · simp [h]
    · simp [h, not_lt.1 h]

theorem engineEnabled_iff (s : State) : engineEnabled s = true ↔ s.rstN = true ∧ s.busy = true := by
  simp [engineEnabled]

end Sys2Proof.Machine
end

