-- ==== Sys2Proof/Laws/PerInstr.lean ====
section
/-! SUPPORT. Statements made per instruction: the fields of each encoding against the opcode table (30_encoding.md R90,
R92, R93). -/

namespace Sys2Proof.Laws.EncodedFields

/-- What the opcode table puts in `OPCODE` and `RSV` of the instruction's word. -/
def tableFields : Instr → BitVec 8 × BitVec 24
  | .nop => (0x00, 0)
  | .view => (0x01, 0)
  | .hdrParse => (0x02, 0)
  | .hdrValidate => (0x03, 0)
  | .pktParse => (0x04, 0)
  | .pktValidate => (0x05, 0)
  | .tsDecode => (0x06, 0)
  | .tsEncode => (0x07, 0)
  | .reservedOpcode opcode => (opcode, 0)
  | .reservedBits rsv opcode => (opcode, rsv)

/-- The encoded word holds the table's fields. -/
def Statement (i : Instr) : Prop :=
  (opcodeField (encode i), rsvField (encode i)) = tableFields i

theorem append_fields (rsv : BitVec 24) (opcode : BitVec 8) :
    opcodeField (rsv ++ opcode) = opcode ∧ rsvField (rsv ++ opcode) = rsv := by
  constructor
  · exact BitVec.extractLsb'_append_eq_right
  · exact BitVec.extractLsb'_append_eq_left

theorem nop : Statement .nop := rfl
theorem view : Statement .view := rfl
theorem hdrParse : Statement .hdrParse := rfl
theorem hdrValidate : Statement .hdrValidate := rfl
theorem pktParse : Statement .pktParse := rfl
theorem pktValidate : Statement .pktValidate := rfl
theorem tsDecode : Statement .tsDecode := rfl
theorem tsEncode : Statement .tsEncode := rfl
theorem reservedOpcode (opcode : BitVec 8) : Statement (.reservedOpcode opcode) :=
  Prod.ext (append_fields 0 opcode).1 (append_fields 0 opcode).2
theorem reservedBits (rsv : BitVec 24) (opcode : BitVec 8) : Statement (.reservedBits rsv opcode) :=
  Prod.ext (append_fields rsv opcode).1 (append_fields rsv opcode).2

end Sys2Proof.Laws.EncodedFields
end

