-- ==== Sys2Proof/Laws/Step.lean ====
section
/-! SUPPORT. What `exec` and `step` can answer, once: a proof about every command or every step takes these apart and
never unfolds the meanings. -/

namespace Sys2Proof.Machine

/-- The next states that the completion of `i` from `s` can answer. -/
inductive ExecResult (i : Instr) (s : State) : State → Prop
  | failure (cause : Cause) (info : Word) : ExecResult i s (commitFailure i cause info s)
  | nop : i = .nop → ExecResult i s (commitSuccess i s)
  | validated : i = .hdrValidate ∨ i = .pktValidate → headerCheck s.hdrRaw = none → ExecResult i s (commitSuccess i s)
  | view : i = .view → offsetArg s + lengthArg s ≤ bufferLen s →
      ExecResult i s (commitSuccess i { s with
        viewOffset := s.argOffset, viewLen := s.argLength, viewLoaded := true })
  | hdrParsed : i = .hdrParse → offsetArg s + 24 ≤ bufferLen s →
      ExecResult i s (commitSuccess i { s with
        hdrRaw := (memRead s.ram (offsetArg s) s.draws 24).1, hdrOffset := s.argOffset,
        hdrLoaded := true, pktLoaded := false, draws := (memRead s.ram (offsetArg s) s.draws 24).2 })
  | pktParsed : i = .pktParse → offsetArg s + 25 ≤ bufferLen s → ExecResult i s (commitSuccess i (pktParsed s))
  | tsDecoded : i = .tsDecode → offsetArg s + 6 ≤ bufferLen s →
      ExecResult i s (commitSuccess i { s with
        tsRaw := (memRead s.ram (offsetArg s) s.draws 6).1, tsOffset := s.argOffset,
        tsLoaded := true, draws := (memRead s.ram (offsetArg s) s.draws 6).2 })
  | tsEncoded : i = .tsEncode →
      ExecResult i s (commitSuccess i { s with
        tsOut := #v[yearByte s.encYear, s.encMonth, s.encDay, s.encHour, s.encMinute, s.encSecond] })

/-- The kind and cause numbers of every cause are a pair of R232's table. -/
theorem cause_pair_listed (c : Cause) : (c.kind.code, c.code) ∈ errorPairs := by cases c <;> decide

/-- A completion leaves no command in flight. -/
theorem ExecResult.handshake {i : Instr} {s t : State} (h : ExecResult i s t) : t.busy = false ∧ t.done = true := by
  cases h <;> exact ⟨rfl, rfl⟩

/-- A commit with a verdict known to fail answers a failure. -/
theorem execResult_of_fail {i : Instr} {v : Verdict} {s t : State} {c : Cause} {info : Word}
    (hv : v = .fail c info) (h : commit i v s = .next t) : ExecResult i s t := by
  subst hv
  injection h with h
  exact h ▸ .failure c info

/-- A validation's completion. -/
theorem execResult_of_check {i : Instr} {s t : State} (hi : i = .hdrValidate ∨ i = .pktValidate)
    (h : commit i (checkVerdict s) s = .next t) : ExecResult i s t := by
  rcases checkVerdict_cases s with ⟨hc, e⟩ | ⟨c, info, _, e⟩
  · rw [e] at h
    injection h with h
    exact h ▸ .validated hi hc
  · exact execResult_of_fail e h

/-- Every next state of `exec` is one of `ExecResult`'s. -/
theorem exec_cases {i : Instr} {s t : State} (h : exec i s = .next t) : ExecResult i s t := by
  cases i with
  | nop => injection h with h; exact h ▸ .nop rfl
  | view =>
    change commit .view (viewVerdict s) s = .next t at h
    rcases viewVerdict_cases s with ⟨hb, e⟩ | ⟨_, e⟩
    · rw [e] at h; injection h with h; exact h ▸ .view rfl hb
    · exact execResult_of_fail e h
  | hdrParse =>
    change commit .hdrParse (hdrParseVerdict s) s = .next t at h
    rcases hdrParseVerdict_cases s with ⟨_, e⟩ | ⟨hb, e⟩
    · exact execResult_of_fail e h
    · rw [e] at h; injection h with h; exact h ▸ .hdrParsed rfl hb
  | hdrValidate =>
    change commit .hdrValidate (hdrValidateVerdict s) s = .next t at h
    rcases hdrValidateVerdict_cases s with ⟨_, e⟩ | ⟨_, e⟩
    · exact execResult_of_fail e h
    · rw [e] at h; exact execResult_of_check (.inl rfl) h
  | pktParse =>
    change commit .pktParse (pktParseVerdict s) s = .next t at h
    rcases pktParseVerdict_cases s with ⟨_, e⟩ | ⟨_, e⟩ | ⟨hb, e⟩
    · exact execResult_of_fail e h
    · exact execResult_of_fail e h
    · rw [e] at h; injection h with h; exact h ▸ .pktParsed rfl hb
  | pktValidate =>
    change commit .pktValidate (pktValidateVerdict s) s = .next t at h
    rcases pktValidateVerdict_cases s with ⟨_, e⟩ | ⟨_, e⟩
    · exact execResult_of_fail e h
    · rw [e] at h; exact execResult_of_check (.inr rfl) h
  | tsDecode =>
    change commit .tsDecode (tsDecodeVerdict s) s = .next t at h
    rcases tsDecodeVerdict_cases s with ⟨hb, e⟩ | ⟨_, e⟩
    · rw [e] at h; injection h with h; exact h ▸ .tsDecoded rfl hb
    · exact execResult_of_fail e h
  | tsEncode => injection h with h; exact h ▸ .tsEncoded rfl
  | reservedOpcode op => injection h with h; exact h ▸ .failure .reservedOpcode s.cmd
  | reservedBits rsv op => injection h with h; exact h ▸ .failure .reservedBits s.cmd

/-- The next states that a step from `s` can answer. -/
inductive StepResult (s : State) : State → Prop
  /-- Nothing but the schedule, the host port's reply and the count of draws changes: a read, an access answered with
  ERROR, or a turn of an engine that is not enabled. -/
  | quiet (ins : List Input) (b : BusReply) (d : Nat) : StepResult s { s with inputs := ins, bus := b, draws := d }
  /-- A clock cycle that the command in flight waits. -/
  | waits (ins : List Input) : s.rstN = true → s.busy = true → s.waited + 1 < Config.maxLatency →
      StepResult s { s with inputs := ins, waited := s.waited + 1 }
  /-- The completion step of the command in flight. -/
  | completes (ins : List Input) (t : State) : s.rstN = true → s.busy = true →
      s.inputs = [] ∨ s.inputs = .engine :: ins ∨ s.inputs = .clock :: ins →
      ExecResult (decode s.cmd) { s with inputs := ins } t → StepResult s t
  /-- A host write to a register. -/
  | writesReg (a : Addr) (r : Reg) (w : Word) (ins : List Input) : s.inputs = .write a w :: ins → s.rstN = true →
      decodeAddr s.bufDepth a = .reg r → StepResult s (reply (.wrote .okay) (writeReg r w { s with inputs := ins }))
  /-- A host write to the frame RAM window. -/
  | writesWindow (a : Addr) (i : Nat) (w : Word) (ins : List Input) : s.inputs = .write a w :: ins → s.rstN = true →
      decodeAddr s.bufDepth a = .window i →
      StepResult s (reply (.wrote .okay)
        (whenIdle { s with inputs := ins } (writeWindow i w { s with inputs := ins })))
  /-- A sample of the reset pin. -/
  | samples (level : Bool) (ins : List Input) : s.inputs = .rst level :: ins →
      StepResult s (sampleRst level { s with inputs := ins })

/-- Every next state of `step` is one of `StepResult`'s. -/
theorem step_cases {s t : State} (h : step s = .next t) : StepResult s t := by
  change stepState s = .next t at h
  unfold stepState at h
  split at h
  · next hin =>
    rcases engineTurn_cases s with ⟨he, e⟩ | ⟨_, e⟩ <;> rw [e] at h
    · obtain ⟨h1, h2⟩ := (engineEnabled_iff s).1 he
      exact .completes s.inputs t h1 h2 (.inl hin) (exec_cases h)
    · injection h with h; exact h ▸ .quiet s.inputs s.bus s.draws
  · next i rest hin =>
    cases i with
    | write a w =>
      injection h with h
      subst h
      rcases busWrite_cases a w { s with inputs := rest } with ⟨_, e⟩ | ⟨_, _, e⟩ | ⟨r, h1, hd, e⟩ | ⟨k, h1, hd, e⟩
        <;> rw [e]
      · exact .quiet rest (.wrote .error) s.draws
      · exact .quiet rest (.wrote .error) s.draws
      · exact .writesReg a r w rest hin h1 hd
      · exact .writesWindow a k w rest hin h1 hd
    | read a =>
      injection h with h
      subst h
      rcases busRead_cases a { s with inputs := rest } with ⟨_, e⟩ | ⟨_, _, e⟩ | ⟨r, _, _, e⟩ | ⟨k, _, _, e⟩ <;> rw [e]
      · exact .quiet rest _ s.draws
      · exact .quiet rest _ s.draws
      · exact .quiet rest _ s.draws
      · exact .quiet rest _ _
    | engine =>
      change engineTurn { s with inputs := rest } = .next t at h
      rcases engineTurn_cases { s with inputs := rest } with ⟨he, e⟩ | ⟨_, e⟩ <;> rw [e] at h
      · obtain ⟨h1, h2⟩ := (engineEnabled_iff _).1 he
        exact .completes rest t h1 h2 (.inr (.inl hin)) (exec_cases h)
      · injection h with h; exact h ▸ .quiet rest s.bus s.draws
    | clock =>
      change clockCycle { s with inputs := rest } = .next t at h
      rcases clockCycle_cases { s with inputs := rest } with ⟨_, e⟩ | ⟨he, hw, e⟩ | ⟨he, _, e⟩ <;> rw [e] at h
      · injection h with h; exact h ▸ .quiet rest s.bus s.draws
      · obtain ⟨h1, h2⟩ := (engineEnabled_iff _).1 he
        injection h with h; exact h ▸ .waits rest h1 h2 hw
      · obtain ⟨h1, h2⟩ := (engineEnabled_iff _).1 he
        exact .completes rest t h1 h2 (.inr (.inr hin)) (exec_cases h)
    | rst level => injection h with h; exact h ▸ .samples level rest hin

end Sys2Proof.Machine
end

