-- ==== Sys2Proof/Tests/Slice0.lean ====
section
/-! SUPPORT. Tests: the refused terms of WellFormed, words written out from the encoding table, one step of each command
on a small state with the values of 95_test_vectors.md, and for each obligation with hypotheses a state that meets
them. Expected values are the spec's vectors (named V-.. and P..) or hand evaluation of its rules. -/

open Sys2Proof Sys2Proof.Machine Sys2Proof.Claims

namespace Sys2Proof.Tests

/-- The byte string H1 of 95_test_vectors.md. -/
def h1 : Vector Byte 24 :=
  #v[0x23, 0x23, 0x01, 0x01, 0x56, 0x49, 0x4E, 0x31, 0x32, 0x33, 0x34, 0x35, 0x36, 0x37, 0x31, 0x32, 0x33, 0x34, 0x35,
     0x36, 0x37, 0x01, 0x12, 0x12]

/-- The byte string P27 of 95_test_vectors.md. -/
def p27 : List Byte := h1.toList.take 22 ++ [0x00, 0x02, 0xAA, 0xBB, 0xCC]

/-- The RAM that holds `bytes` from index `i` on and nothing else. -/
def ramFrom : Nat → List Byte → Memory
  | _, [] => []
  | i, b :: bs => (i, b) :: ramFrom (i + 1) bs

/-- From reset: `bytes` in the RAM, `BUF_LEN = len`, `ARG_OFFSET = off`. -/
def loaded (bytes : List Byte) (len off : Nat) : State :=
  { State.reset with ram := ramFrom 0 bytes, bufLen := BitVec.ofNat 32 len, argOffset := BitVec.ofNat 32 off }

/-- H1 in the RAM and parsed at offset 0, with the header bytes `h` latched. -/
def parsed (h : Vector Byte 24) : State := { loaded h.toList 24 0 with hdrRaw := h, hdrLoaded := true }

/-- P27 in the RAM and deframed at offset 0. -/
def deframed : State :=
  { loaded p27 27 0 with
    hdrRaw := (h1.set 22 0x00).set 23 0x02, payOffset := 24, payLen := 2, checksum := 0xCC, hdrLoaded := true,
    pktLoaded := true }

/-- A command in flight, issued from `s`. -/
def flying (w : Word) (s : State) : State := issue w s

/-- The outcome is a next state with the property. -/
def next (o : Host.Outcome State Fault Refusal) (p : State → Bool) : Bool :=
  match o with
  | .next t => p t
  | .fault _ => false
  | .refused _ => false

/-- One step that runs the command word `w` from `s`. -/
def runs (w : Nat) (s : State) (p : State → Bool) : Bool := next (step (s.withFetchWord 32 w)) p

/-! ## WellFormed: the ill-formed terms it refuses -/

theorem test_wellformed_legal_opcode_is_not_reserved : (Instr.reservedOpcode 0x07).wellFormed = false := by decide
theorem test_wellformed_least_reserved_opcode : (Instr.reservedOpcode 0x08).wellFormed = true := by decide
theorem test_wellformed_zero_reserved_bits : (Instr.reservedBits 0 0x03).wellFormed = false := by decide
theorem test_wellformed_one_reserved_bit : (Instr.reservedBits 0x800000 0x03).wellFormed = true := by decide

/-! ## Decode: words written out bit by bit from R90, R92, R93 -/

theorem test_decode_nop : decode 0b00000000000000000000000000000000#32 = .nop := by decide
theorem test_decode_view : decode 0b00000000000000000000000000000001#32 = .view := by decide
theorem test_decode_hdrParse : decode 0b00000000000000000000000000000010#32 = .hdrParse := by decide
theorem test_decode_hdrValidate : decode 0b00000000000000000000000000000011#32 = .hdrValidate := by decide
theorem test_decode_pktParse : decode 0b00000000000000000000000000000100#32 = .pktParse := by decide
theorem test_decode_pktValidate : decode 0b00000000000000000000000000000101#32 = .pktValidate := by decide
theorem test_decode_tsDecode : decode 0b00000000000000000000000000000110#32 = .tsDecode := by decide
theorem test_decode_tsEncode : decode 0b00000000000000000000000000000111#32 = .tsEncode := by decide
theorem test_decode_reservedOpcode : decode 0b00000000000000000000000011111111#32 = .reservedOpcode 0xFF := by decide
theorem test_decode_reservedBits : decode 0b10000000000000000000000000000011#32 = .reservedBits 0x800000 0x03 := by
  decide
theorem test_decodeTableWord_row : decodeTableWord 32 0x00000107 = some (.reservedBits 0x000001 0x07) := by decide
theorem test_decodeTableWord_longer_than_a_command : decodeTableWord 64 0x00000001 = none := by decide

/-! ## One step of each command -/

/-- V-CMD-1. -/
theorem test_nop_status : runs 0 State.reset (fun t => statusWord t == 0x00000002#32 && t.errInfo == 0#32) = true := by
  decide

/-- V-VIEW-5: the empty view at the buffer's end. -/
theorem test_view_at_end :
    runs 1 (loaded [] 24 24) (fun t => statusWord t == 0x00000042#32 && t.viewOffset == 24#32) = true := by decide

/-- V-VIEW-10: no wrap, and the sum saturates. -/
theorem test_view_does_not_wrap :
    runs 1 { loaded [] 24 0xFFFFFFFF with argLength := 0xFFFFFFFF }
      (fun t => statusWord t == 0x00011006#32 && t.errInfo == 0xFFFFFFFF#32) = true := by decide

/-- V-HDR-1. -/
theorem test_hdrParse_latches :
    runs 2 (loaded h1.toList 24 0)
      (fun t => statusWord t == 0x0000000A#32 && readReg .hdrVin1 t == 0x35343332#32) = true := by decide

/-- V-HDR-17. -/
theorem test_hdrParse_too_short :
    runs 2 (loaded h1.toList 24 1) (fun t => statusWord t == 0x00012006#32 && t.errInfo == 25#32) = true := by decide

/-- V-HDR-13: bytes that are no ASCII pass. -/
theorem test_hdrValidate_passes :
    runs 3 (parsed ((h1.set 4 0x80).set 5 0xFF)) (fun t => statusWord t == 0x0000008A#32) = true := by decide

/-- V-HDR-12: the NUL at the last VIN index. -/
theorem test_hdrValidate_vin :
    runs 3 (parsed (h1.set 20 0x00)) (fun t => statusWord t == 0x0005200E#32 && t.errInfo == 16#32) = true := by decide

/-- V-PKT-1, the row of 25 bytes. -/
theorem test_pktParse_empty_payload :
    runs 4 (loaded p27 25 0) (fun t => statusWord t == 0x0000011A#32 && readReg .pktChecksum t == 0xAA#32) = true := by
  decide

/-- V-PKT-1, the row of 24 bytes. -/
theorem test_pktParse_no_checksum_byte :
    runs 4 (loaded p27 24 0) (fun t => statusWord t == 0x00011006#32 && t.errInfo == 25#32) = true := by decide

/-- V-PKT-2. -/
theorem test_pktValidate_passes : runs 5 deframed (fun t => statusWord t == 0x0000009A#32) = true := by decide

/-- V-PKT-4: a header alone is no packet. -/
theorem test_pktValidate_no_packet :
    runs 5 (parsed h1) (fun t => statusWord t == 0x0004400E#32 && t.errInfo == 0#32) = true := by decide

/-- V-TSD-4: the year byte is signed. -/
theorem test_tsDecode_signed_year :
    runs 6 (loaded [0x80, 0x0B, 0x0B, 0x0A, 0x1E, 0x2D] 6 0)
      (fun t => readReg .tsYear t == 0xFFFFFFE4#32 && statusWord t == 0x00000022#32) = true := by decide

/-- V-TSD-12. -/
theorem test_tsDecode_out_of_bounds :
    runs 6 (loaded [1, 2, 3, 4, 5, 6, 7] 7 2) (fun t => statusWord t == 0x00011006#32 && t.errInfo == 8#32) = true := by
  decide

/-- V-TSE-8. -/
theorem test_tsEncode_wraps :
    runs 7 (writeEncTime 0x003C3C18 (writeEncDate 0x200DFFFF State.reset))
      (fun t => readReg .tsOutLo t == 0x18200D2F#32 && readReg .tsOutHi t == 0x00003C3C#32) = true := by decide

/-- V-TSE-3. -/
theorem test_tsEncode_before_2000 :
    runs 7 (writeEncTime 0x003B3B17 (writeEncDate 0x1F0C07CF State.reset))
      (fun t => readReg .tsOutLo t == 0x171F0CFF#32) = true := by decide

/-- V-CMD-3. -/
theorem test_reservedOpcode_fails :
    runs 0x000000FF State.reset (fun t => statusWord t == 0x00024006#32 && t.errInfo == 0x000000FF#32) = true := by
  decide

/-- V-CMD-6: `RSV` is checked first. -/
theorem test_reservedBits_first :
    runs 0x00000107 State.reset (fun t => statusWord t == 0x00014006#32 && t.errInfo == 0x00000107#32) = true := by
  decide

/-! ## The bus and the script notation -/

/-- V-BUS-4 and V-BUS-7. -/
theorem test_bus_window :
    (busRead 0x090000 State.reset).bus = .read .error 0 ∧
    readReg .bufDepth State.reset = 0x00020000#32 ∧
    (busRead 0x010000 (busWrite 0x010000 0x12345678 State.reset)).bus = .read .okay 0x00000078 := by decide

/-- P4: a write during a command is dropped. -/
theorem test_bus_write_while_busy :
    statusWord (busWrite 0x000010 10 (flying 2 (loaded h1.toList 24 0))) = 0x00000201#32 := by decide

/-- 30_encoding.md R96. -/
theorem test_script_ts_encode :
    (Pseudo.expand 0 (.tsEncode 2024 11 11 10 30 45)).flatMap Stmt.inputs =
      [.write 0x000020 0x0B0B07E8, .write 0x000024 0x002D1E0A, .write 0x00000C 0x00000007, .engine, .read 0x000008] := by
  decide

/-! ## Witnesses: a state and operands that meet the hypotheses of each obligation, at boundary values -/

theorem witness_DecodeEncodeRoundTrip :
    (Instr.reservedOpcode 0x08).wellFormed = true ∧ (Instr.reservedOpcode 0xFF).wellFormed = true ∧
    (Instr.reservedBits 1 0xFF).wellFormed = true ∧ Instr.nop.wellFormed = true := by decide

theorem witness_DecodeFollowsTheOpcodeMap :
    256 ≤ (0x00000100#32).toNat ∧ 256 ≤ (0xFFFFFFFF#32).toNat ∧ (0x00000000#32).toNat ≤ 7 ∧
    (0x00000007#32).toNat ≤ 7 ∧ 8 ≤ (0x00000008#32).toNat ∧ (0x00000008#32).toNat ≤ 255 ∧
    8 ≤ (0x000000FF#32).toNat ∧ (0x000000FF#32).toNat ≤ 255 := by decide

theorem witness_StepRunsTheCommandInFlight :
    (flying 7 State.reset).rstN = true ∧ (flying 7 State.reset).busy = true ∧
    decode (flying 7 State.reset).cmd = .tsEncode ∧ Instr.tsEncode.wellFormed = true ∧
    (flying 7 State.reset).inputs = [] ∧
    ({ flying 7 State.reset with inputs := [.engine, .clock] }).inputs = .engine :: [.clock] := by decide

theorem witness_PlacedCommandRunsNext :
    (2 ^ 32 - 1) < 2 ^ 32 ∧ State.reset.rstN = true ∧ State.reset.busy = false ∧
    ({ State.reset with inputs := [.write 0x00000C 2, .engine] }).inputs = .write 0x00000C#24 2 :: .engine :: [] := by
  decide

/-- Sums equal to the length, and one more than it. -/
theorem witness_ViewResult :
    let s : State := { loaded [] 24 4 with argLength := 20 }
    let u : State := { loaded [] 24 4 with argLength := 21 }
    s.argOffset.toNat + s.argLength.toNat ≤ s.bufLen.toNat ∧
    u.bufLen.toNat < u.argOffset.toNat + u.argLength.toNat := by decide

theorem witness_HdrParseResult :
    let s := loaded h1.toList 24 0
    let u := loaded h1.toList 24 1
    s.argOffset.toNat + 24 ≤ s.bufLen.toNat ∧ s.ram.read? (s.argOffset.toNat + 0) = some 0x23 ∧
    s.ram.read? (s.argOffset.toNat + 23) = some 0x12 ∧ u.bufLen.toNat < u.argOffset.toNat + 24 := by decide

theorem witness_HdrValidateResult :
    State.reset.hdrLoaded = false ∧ (parsed h1).hdrLoaded = true ∧ headerCheck (parsed h1).hdrRaw = none ∧
    (parsed (h1.set 1 0x24)).hdrLoaded = true ∧
    headerCheck (parsed (h1.set 1 0x24)).hdrRaw = some (.magicInvalid, 0x00002324) := by decide

/-- Buffers of 23, 24 and 25 bytes. -/
theorem witness_PktParseResult :
    let a := loaded p27 23 0
    let b := loaded p27 24 0
    let c := loaded p27 25 0
    a.bufLen.toNat < a.argOffset.toNat + 24 ∧ b.bufLen.toNat = b.argOffset.toNat + 24 ∧
    c.argOffset.toNat + 25 ≤ c.bufLen.toNat ∧ c.ram.read? (c.argOffset.toNat + 23) = some 0x02 ∧
    c.ram.read? (c.bufLen.toNat - 1) = some 0xAA := by decide

theorem witness_PktValidateResult :
    (parsed h1).pktLoaded = false ∧ deframed.pktLoaded = true ∧ headerCheck deframed.hdrRaw = none ∧
    ({ deframed with hdrRaw := h1.set 3 0x00 }).pktLoaded = true ∧
    headerCheck ({ deframed with hdrRaw := h1.set 3 0x00 }).hdrRaw = some (.responseCodeInvalid, 0) := by decide

theorem witness_TsDecodeResult :
    let s := loaded [1, 2, 3, 4, 5, 6, 7] 7 1
    let u := loaded [1, 2, 3, 4, 5, 6, 7] 7 2
    s.argOffset.toNat + 6 ≤ s.bufLen.toNat ∧ s.ram.read? (s.argOffset.toNat + 5) = some 7 ∧
    u.bufLen.toNat < u.argOffset.toNat + 6 := by decide

theorem witness_IllegalWordsComplete :
    256 ≤ (flying 0x100 State.reset).cmd.toNat ∧ 8 ≤ (flying 0x08 State.reset).cmd.toNat ∧
    (flying 0x08 State.reset).cmd.toNat ≤ 255 ∧ 8 ≤ (flying 0xFF State.reset).cmd.toNat ∧
    (flying 0xFF State.reset).cmd.toNat ≤ 255 := by decide

/-- A header for each branch; the first NUL of the VIN at index 0 and at index 16. -/
theorem witness_HeaderCheckReportsFirstFailure :
    ((h1.set 1 0x24)[0].toNat * 256 + (h1.set 1 0x24)[1].toNat ≠ 0x2323) ∧
    (h1[0].toNat * 256 + h1[1].toNat = 0x2323) ∧ (h1.set 3 0xFD)[3] ∉ [0x01#8, 0x02#8, 0x03#8, 0xFE#8] ∧
    h1[3] ∈ [0x01#8, 0x02#8, 0x03#8, 0xFE#8] ∧ (h1.set 21 0x00)[21] ∉ [0x01#8, 0x02#8, 0x03#8, 0xFE#8, 0xFF#8] ∧
    h1[21] ∈ [0x01#8, 0x02#8, 0x03#8, 0xFE#8, 0xFF#8] ∧ (h1.set 4 0x00)[4 + (0 : Fin 17).val] = 0x00#8 ∧
    (h1.set 20 0x00)[4 + (16 : Fin 17).val] = 0x00#8 ∧
    (∀ k : Fin 17, k < 16 → (h1.set 20 0x00)[4 + k.val] ≠ 0x00#8) ∧ (∀ j : Fin 17, h1[4 + j.val] ≠ 0x00#8) ∧
    headerCheck (h1.set 4 0x00) = some (.vinLengthInvalid, 0) := by decide

theorem witness_HeaderCheckCharacterised : headerCheck h1 = none ∧ headerCheck (h1.set 21 0x00) ≠ none := by decide

theorem witness_ValidationIgnoresEverythingElse :
    let s := deframed
    let u : State := { deframed with ram := [], checksum := 0, payLen := 7, errKind := 4, errCause := 1 }
    s.hdrRaw = u.hdrRaw ∧ s.hdrLoaded = u.hdrLoaded ∧ s.pktLoaded = u.pktLoaded ∧ s ≠ u := by decide

theorem witness_PayloadLengthLaw : ∃ t, exec .pktParse (loaded p27 25 0) = .next t ∧ t.errKind = 0 :=
  ⟨_, rfl, by decide⟩

theorem witness_ChecksumIsTheLastByte :
    (∃ t, exec .pktParse (loaded p27 25 0) = .next t ∧ t.errKind = 0) ∧
    (loaded p27 25 0).ram.read? ((loaded p27 25 0).bufLen.toNat - 1) = some 0xAA := ⟨⟨_, rfl, by decide⟩, by decide⟩

/-- The encoded bytes of the years 1872 and 2127, in a buffer that just holds them (V-TSE-5, V-TSE-4). -/
theorem witness_TimestampRoundTrip :
    (let s := writeEncDate 0x01010750 State.reset
     let u := loaded [0x80, 1, 1, 0, 0, 0] 6 0
     1872 ≤ s.encYear.toNat ∧ s.encYear.toNat ≤ 2127 ∧ u.argOffset.toNat + 6 ≤ u.bufLen.toNat ∧
     next (exec .tsEncode s) (fun t => decide (∀ k : Fin 6, u.ram.read? (u.argOffset.toNat + k) = some t.tsOut[k])) = true) ∧
    (let s := writeEncDate 0x0101084F State.reset
     let u := loaded [0x7F, 1, 1, 0, 0, 0] 6 0
     1872 ≤ s.encYear.toNat ∧ s.encYear.toNat ≤ 2127 ∧ u.argOffset.toNat + 6 ≤ u.bufLen.toNat ∧
     next (exec .tsEncode s)
       (fun t => decide (∀ k : Fin 6, u.ram.read? (u.argOffset.toNat + k) = some t.tsOut[k])) = true) := by decide

/-- A validation that passes, one that fails, and another command. -/
theorem witness_ValidOnlyAfterAPassedValidation :
    (∃ t, exec .hdrValidate (parsed h1) = .next t ∧ t.errKind = 0) ∧
    (∃ t, exec .pktValidate (parsed h1) = .next t ∧ t.errKind ≠ 0) ∧ (∃ t, exec .nop deframed = .next t) :=
  ⟨⟨_, rfl, by decide⟩, ⟨_, rfl, by decide⟩, ⟨_, rfl⟩⟩

theorem witness_FailureWritesNoResult :
    (∃ t, exec .pktParse { deframed with argOffset := 4 } = .next t ∧ t.errKind ≠ 0) ∧
    (∃ t, exec (.reservedOpcode 0x08) deframed = .next t ∧ t.errKind ≠ 0) := ⟨⟨_, rfl, by decide⟩, ⟨_, rfl, by decide⟩⟩

theorem witness_SuccessCommitsCleanErrors :
    (∃ t, exec .hdrValidate (parsed h1) = .next t ∧ t.errKind = 0) ∧
    (∃ t, exec .tsEncode deframed = .next t ∧ t.errKind = 0) := ⟨⟨_, rfl, by decide⟩, ⟨_, rfl, by decide⟩⟩

theorem witness_CommandsWriteOnlyTheirGroup :
    (∃ t, exec .view deframed = .next t) ∧ (∃ t, exec .pktParse (loaded p27 27 0) = .next t) ∧
    Instr.view ≠ .hdrParse ∧ Instr.view ≠ .pktParse ∧ Instr.view ≠ .tsDecode ∧ Instr.view ≠ .tsEncode ∧
    Instr.pktParse ≠ .view := ⟨⟨_, rfl⟩, ⟨_, rfl⟩, by decide⟩

theorem witness_CommandWriteIssues : State.reset.rstN = true ∧ State.reset.busy = false := by decide

/-- The window's first and last index. -/
theorem witness_WritesWhileBusy :
    let s := flying 2 (loaded h1.toList 24 0)
    s.rstN = true ∧ s.busy = true ∧ 0 < s.bufDepth ∧ 131071 < s.bufDepth ∧ s.bufDepth ≤ Config.bufDepthMax ∧
    (0x00000001#32)[1] = false ∧ (0x00000003#32)[1] = true ∧ Reg.hdrCodes.access = .ro := by decide

/-- A register read while a command is in flight. -/
theorem witness_InputsFixedInFlight :
    let s : State := { flying 2 (loaded h1.toList 24 0) with inputs := [.read 0x000008] }
    s.rstN = true ∧ s.busy = true ∧ ∃ t, step s = .next t ∧ t.busy = true := ⟨rfl, rfl, _, rfl, rfl⟩

theorem witness_HostAccessesDoNotChangeResults :
    let s := flying 2 (loaded h1.toList 24 0)
    s.rstN = true ∧ s.busy = true ∧ ¬(0x000010#24 = 0x000004#24 ∧ (0x0000000A#32)[1] = true) ∧
    ¬(0x000004#24 = 0x000004#24 ∧ (0x00000001#32)[1] = true) ∧
    s.ram.read? 0 = some 0x23 ∧ s.ram.read? 23 = some 0x12 ∧ (0x010000#24).toNat = 0x010000 + 4 * 0 ∧
    (0x01005C#24).toNat = 0x010000 + 4 * 23 ∧ 23 < s.bufDepth ∧ (0x010060#24).toNat = 0x010000 + 4 * 24 ∧
    s.ram.read? 24 = none := by decide

/-- The windows of the first and the last byte of H1 name written bytes, and a register's address names no window. -/
theorem witness_HostAccessesDoNotChangeResults_read :
    let s := flying 2 (loaded h1.toList 24 0)
    (∀ i, i < s.bufDepth → (0x010000#24).toNat = 0x010000 + 4 * i → ∃ b, s.ram.read? i = some b) ∧
    (∀ i, i < s.bufDepth → (0x01005C#24).toNat = 0x010000 + 4 * i → ∃ b, s.ram.read? i = some b) ∧
    (∀ i, i < s.bufDepth → (0x000044#24).toNat = 0x010000 + 4 * i → ∃ b, s.ram.read? i = some b) := by
  have key : ∀ (a : Addr) (k : Nat), a.toNat = 0x010000 + 4 * k → ∀ i, a.toNat = 0x010000 + 4 * i → i = k := by
    intros
    omega
  refine ⟨fun i _ h => ⟨0x23, ?_⟩, fun i _ h => ⟨0x12, ?_⟩, fun i _ h => ?_⟩
  · rw [key _ 0 (by decide) i h]; decide
  · rw [key _ 23 (by decide) i h]; decide
  · have e : (0x000044#24).toNat = 68 := by decide
    omega

/-- Each clause at the ends of its range. -/
theorem witness_UnmappedAndMisalignedAccess :
    State.reset.rstN = true ∧ (0x000002#24).toNat % 4 ≠ 0 ∧
    ((0x00002C#24).toNat < 0x001000 ∧ ∀ r ∈ Reg.all, r.offset ≠ (0x00002C#24).toNat) ∧
    ((0x000FFC#24).toNat < 0x001000 ∧ ∀ r ∈ Reg.all, r.offset ≠ (0x000FFC#24).toNat) ∧
    (0x001000 ≤ (0x001000#24).toNat ∧ (0x001000#24).toNat < 0x010000) ∧
    (0x001000 ≤ (0x00FFFC#24).toNat ∧ (0x00FFFC#24).toNat < 0x010000) ∧
    0x010000 + 4 * State.reset.bufDepth ≤ (0x090000#24).toNat ∧
    0x010000 + 4 * State.reset.bufDepth ≤ (0xFFFFFC#24).toNat := by decide

/-- `Reg.all` lists every register, so the witness above speaks of every register. -/
theorem test_reg_all_is_complete (r : Reg) : r ∈ Reg.all := by cases r <;> decide

theorem witness_RegisterAccessReplies :
    State.reset.rstN = true ∧ (flying 0 State.reset).rstN = true ∧ Reg.errInfo.access = .ro := by decide

theorem witness_OperandRegistersHoldWhatIsWritten : State.reset.rstN = true ∧ State.reset.busy = false := by decide

/-- The largest value stored whole, and the least that is cut. -/
theorem witness_BufLenWrite :
    State.reset.rstN = true ∧ State.reset.busy = false ∧ (131072#32).toNat ≤ State.reset.bufDepth ∧
    ¬(131073#32).toNat ≤ State.reset.bufDepth := by decide

theorem witness_WindowWriteAndRead :
    let s := loaded h1.toList 24 0
    s.rstN = true ∧ 0 < s.bufDepth ∧ 131071 < s.bufDepth ∧ s.bufDepth ≤ Config.bufDepthMax ∧ s.busy = false ∧
    (flying 0 s).busy = true ∧ s.ram.read? 0 = some 0x23 := by decide

theorem witness_UnwrittenByteIsAFreshDraw :
    State.reset.rstN = true ∧ 131071 < State.reset.bufDepth ∧ State.reset.bufDepth ≤ Config.bufDepthMax ∧
    State.reset.ram.read? 131071 = none ∧ (loaded [1] 24 0).ram.read? 1 = none := by decide

/-- Commands that succeed over unwritten bytes, and one that fails. -/
theorem witness_UnwrittenByteIsAFreshDraw_commands :
    (∃ t, exec .hdrParse (loaded [1] 24 0) = .next t ∧ t.errKind = 0) ∧
    (∃ t, exec .pktParse (loaded [1] 25 0) = .next t ∧ t.errKind = 0) ∧
    (∃ t, exec .tsDecode (loaded [1] 24 0) = .next t ∧ t.errKind = 0) ∧
    (∃ t, exec .pktParse (loaded [1] 24 0) = .next t ∧ t.errKind ≠ 0) :=
  ⟨⟨_, rfl, by decide⟩, ⟨_, rfl, by decide⟩, ⟨_, rfl, by decide⟩, ⟨_, rfl, by decide⟩⟩

theorem witness_AddressMap :
    Config.bufDepthMax ≤ Config.bufDepthMax ∧ 4177919 < Config.bufDepthMax ∧
    Config.bufDepthMin ≤ Config.bufDepthMax ∧ 24 < Config.bufDepthMin ∧
    (Reg.id, 0x000, Access.ro) ∈ registerTable ∧ (Reg.tsOutHi, 0x0B4, Access.ro) ∈ registerTable := by decide

theorem witness_StatusWordLayout :
    (flying 0 { State.reset with wrBusy := true, done := true }).rstN = true ∧
    statusWord { deframed with wrBusy := true, done := true, payLen := 3 } = 0x0000031A#32 := by decide

/-- Frame command, response and encryption bytes at the ends of the ranges. -/
theorem witness_EnumerationCodes :
    (1 ≤ (0x06#8).toNat ∧ (0x06#8).toNat ≤ 6) ∧ 7 ≤ (0x07#8).toNat ∧ (1 ≤ (0x03#8).toNat ∧ (0x03#8).toNat ≤ 3) ∧
    (0xFE#8).toNat = 0xFE ∧ (4 ≤ (0xFF#8).toNat ∧ (0xFF#8).toNat ≠ 0xFE) ∧ (0x02#8).toNat ≤ 2 ∧
    (3 ≤ (0x03#8).toNat ∧ (0x03#8).toNat ≠ 0xFE) := by decide

theorem witness_VinLengthRegister :
    headerCheck (parsed (h1.set 20 0x00)).hdrRaw = some (.vinLengthInvalid, 16) ∧
    headerCheck (parsed h1).hdrRaw = none := by decide

theorem witness_ResultRegistersShowElements :
    State.reset.bufDepth ≤ Config.bufDepthMax ∧
    ({ State.reset with bufDepth := 4177920 }).bufDepth ≤ Config.bufDepthMax := by decide

theorem witness_IrqIsALevel :
    (∃ t, exec .nop (flying 0 { State.reset with irqEn := true }) = .next t) ∧ State.reset.rstN = true ∧
    State.reset.busy = false ∧ (0x00000002#32)[1] = true ∧
    (0x00000001#32)[1] = false ∧ (0xFFFFFFFD#32)[1] = false ∧ (0x00000000#32)[1] = false ∧
    (flying 0 State.reset).busy = true ∧ ({ State.reset with done := true }).done = true :=
  ⟨⟨_, rfl⟩, by decide⟩

theorem witness_SoftReset : (flying 2 State.reset).rstN = true ∧ (0x00000003#32)[1] = true := by decide

theorem witness_HardwareResetHolds :
    ({ flying 2 State.reset with inputs := [.rst false] }).inputs = .rst false :: [] ∧
    ({ flying 2 State.reset with inputs := [.write 0x000004 3] }).inputs = .write 0x000004#24 3 :: [] ∧
    (flying 2 State.reset).rstN = true ∧ (3#32)[1] = true ∧
    (sampleRst false { State.reset with inputs := [.write 0 0] }).rstN = false ∧
    (sampleRst false { State.reset with inputs := [.write 0 0] }).inputs = .write 0 0 :: [] ∧
    (sampleRst false { State.reset with inputs := [.read 0] }).inputs = .read 0 :: [] ∧
    (sampleRst false { State.reset with inputs := [.engine] }).inputs = .engine :: [] ∧
    (sampleRst false { State.reset with inputs := [.rst true] }).inputs = .rst true :: [] ∧
    (sampleRst false State.reset).inputs = [] := by decide

theorem witness_StateAfterReset :
    (parsed h1).inputs = [] ∧ ({ parsed h1 with inputs := [.engine] }).inputs = .engine :: [] ∧
    ({ parsed h1 with inputs := [.clock] }).inputs = .clock :: [] ∧ (parsed h1).busy = false := by decide

/-- A write to the window's last byte. -/
theorem witness_RamChangesOnlyByWindowWrites :
    let s : State := { State.reset with inputs := [.write 0x08FFFC 0x123] }
    ∃ t, step s = .next t ∧ t.ram ≠ s.ram := ⟨_, rfl, by decide⟩

/-- Each loaded flag set by a completion. -/
theorem witness_LoadedFlagsLifecycle_set :
    (∃ t, step (flying 2 (loaded h1.toList 24 0)) = .next t ∧ t.hdrLoaded = true) ∧
    (∃ t, step (flying 4 (loaded p27 27 0)) = .next t ∧ t.pktLoaded = true) ∧
    (∃ t, step (flying 6 (loaded h1.toList 24 0)) = .next t ∧ t.tsLoaded = true) ∧
    (∃ t, step (flying 1 (loaded h1.toList 24 0)) = .next t ∧ t.viewLoaded = true) ∧
    (loaded p27 27 0).hdrLoaded = false ∧ (loaded p27 27 0).pktLoaded = false ∧ (loaded p27 27 0).tsLoaded = false ∧
    (loaded p27 27 0).viewLoaded = false :=
  ⟨⟨_, rfl, by decide⟩, ⟨_, rfl, by decide⟩, ⟨_, rfl, by decide⟩, ⟨_, rfl, by decide⟩, by decide⟩

/-- Each loaded flag cleared: by a failure, by another parse, by a mutation and by a reset. -/
theorem witness_LoadedFlagsLifecycle_clear :
    let all : State := { deframed with tsLoaded := true, viewLoaded := true }
    (∃ t, step (flying 2 { all with argOffset := 4 }) = .next t ∧ t.hdrLoaded = false) ∧
    (∃ t, step (flying 2 all) = .next t ∧ t.pktLoaded = false) ∧
    (∃ t, step (flying 6 { all with argOffset := 22 }) = .next t ∧ t.tsLoaded = false) ∧
    (∃ t, step { all with inputs := [.write 0x000010 27] } = .next t ∧ t.viewLoaded = false) ∧
    (∃ t, step { all with inputs := [.write 0x000004 2] } = .next t ∧ t.viewLoaded = false) ∧
    all.hdrLoaded = true ∧ all.pktLoaded = true ∧ all.tsLoaded = true ∧ all.viewLoaded = true :=
  ⟨⟨_, rfl, by decide⟩, ⟨_, rfl, by decide⟩, ⟨_, rfl, by decide⟩, ⟨_, rfl, by decide⟩, ⟨_, rfl, by decide⟩, by decide⟩

/-- A bus read while a command is in flight, at which no completion is due. -/
theorem witness_ResultsHoldUntilCompletion_in_flight :
    let s : State := { flying 2 deframed with inputs := [.read 0x000044] }
    (∃ t, step s = .next t ∧ t.busy = true) ∧ ¬resetStep s := by
  refine ⟨⟨_, rfl, rfl⟩, fun h => ?_⟩
  rcases h with ⟨_, h⟩ | ⟨_, _, h, _⟩ <;> exact absurd h (by simp)

/-- A buffer mutation is neither a completion nor a reset. -/
theorem witness_ResultsHoldUntilCompletion :
    let s : State := { deframed with inputs := [.write 0x000010 10] }
    (∃ t, step s = .next t) ∧ ¬completionStep s ∧ ¬resetStep s := by
  refine ⟨⟨_, rfl⟩, fun h => (by cases h.2.1), fun h => ?_⟩
  rcases h with ⟨_, h⟩ | ⟨_, _, h, _⟩ <;> exact absurd h (by simp)

/-- All the cycles of the bound, from the issue. -/
theorem witness_CommandCompletesWithinMaxLatency :
    let s : State := { flying 2 State.reset with inputs := List.replicate Config.maxLatency .clock ++ [] }
    s.rstN = true ∧ s.busy = true ∧ 1 ≤ Config.maxLatency ∧ Config.maxLatency ≤ s.waited + Config.maxLatency ∧
    s.inputs = List.replicate Config.maxLatency .clock ++ [] :=
  ⟨rfl, rfl, Nat.succ_le_succ (Nat.zero_le _), Nat.le_add_left _ _, rfl⟩

theorem witness_CommandCompletesWithinMaxLatency_cycle :
    let s : State := { flying 2 State.reset with inputs := [.clock] }
    s.rstN = true ∧ s.busy = true ∧ s.inputs = .clock :: [] := by decide

/-- For each invariant a state that meets it, away from reset, and a step from it. -/
theorem witness_BufferAndRamStayWellFormed :
    let s : State := { loaded p27 131072 0 with inputs := [.write 0x08FFFC 1] }
    bufferFits s ∧ ramWellFormed s ∧ ∃ t, step s = .next t :=
  ⟨⟨by decide, by decide, by decide⟩, ⟨by decide, by decide⟩, _, rfl⟩

theorem witness_ErrorPairsStayLegal :
    errorPairLegal { deframed with errKind := 4, errCause := 4 } ∧ ∃ t, step (flying 5 (parsed h1)) = .next t :=
  ⟨.inr (by decide), _, rfl⟩

theorem witness_HandshakeStaysConsistent :
    handshakeConsistent (flying 3 { parsed h1 with valid := true }) ∧ ∃ t, step (flying 3 (parsed h1)) = .next t :=
  ⟨⟨fun _ => rfl, fun _ => ⟨rfl, rfl, rfl⟩⟩, _, rfl⟩

theorem witness_LiveViewsStayInBounds : liveViewsInBounds deframed ∧ ∃ t, step (flying 5 deframed) = .next t :=
  ⟨⟨by decide, by decide, by decide, by decide⟩, _, rfl⟩

theorem witness_LiveLatchesMatchTheRam : latchesMatchRam deframed ∧ ∃ t, step (flying 5 deframed) = .next t := by
  refine ⟨⟨fun _ k b h => ?_, fun h => (by cases h), fun _ b h => Option.some.inj h⟩, _, rfl⟩
  revert h
  revert b
  revert k
  decide

theorem witness_ResetIsHeldWhileLow :
    heldInReset (sampleRst false deframed) ∧ (sampleRst false deframed).rstN = false ∧
    ∃ t, step { sampleRst false deframed with inputs := [.write 0x00000C 2] } = .next t := ⟨fun _ => rfl, rfl, _, rfl⟩

theorem witness_WaitStaysBelowMaxLatency : latencyBounded (flying 2 deframed) ∧ ∃ t, step (flying 2 deframed) = .next t :=
  ⟨fun _ => Nat.succ_pos _, _, rfl⟩

end Sys2Proof.Tests
end

/-! SUPPORT. What a host write to a register can do, once (10_state.md R22, 40_command_engine.md R123). -/

namespace Sys2Proof.Machine

/-- The states that a host write of `w` to the register `r` can leave. -/
inductive RegWriteResult (r : Reg) (w : Word) (s : State) : State → Prop
  | ignored : r.access = .ro → RegWriteResult r w s s
  | softReset : r = .ctrl → w[1] = true → RegWriteResult r w s (resetElements s)
  | setsIrqEn : r = .ctrl → w[1] = false → RegWriteResult r w s { s with irqEn := w[0] }
  | clearsStatus : r = .status → RegWriteResult r w s (writeStatus w s)
  | dropped : r.access = .rw → s.busy = true → RegWriteResult r w s (dropWrite s)
  | issues : r = .cmd → s.busy = false → RegWriteResult r w s (issue w s)
  | setsBufLen : r = .bufLen → s.busy = false → RegWriteResult r w s (writeBufLen w s)
  | setsArgOffset : r = .argOffset → s.busy = false → RegWriteResult r w s { s with argOffset := w }
  | setsArgLength : r = .argLength → s.busy = false → RegWriteResult r w s { s with argLength := w }
  | setsEncDate : r = .encDate → s.busy = false → RegWriteResult r w s (writeEncDate w s)
  | setsEncTime : r = .encTime → s.busy = false → RegWriteResult r w s (writeEncTime w s)

/-- What neither a dropped nor an accepted write changes, a write that needs the engine idle keeps. -/
theorem whenIdle_keeps {α : Type} (f : State → α) {s u : State} (hdrop : f (dropWrite s) = f s) (hu : f u = f s) :
    f (whenIdle s u) = f s := by
  rcases whenIdle_cases s u with ⟨_, e⟩ | ⟨_, e⟩ <;> rw [e]
  · exact hdrop
  · exact hu

/-- A write to an `RW` register is dropped while a command is in flight, and otherwise does what it does when
accepted. -/
theorem regWriteResult_whenIdle {r : Reg} {w : Word} {s u : State} (hr : r.access = .rw)
    (hu : s.busy = false → RegWriteResult r w s u) : RegWriteResult r w s (whenIdle s u) := by
  rcases whenIdle_cases s u with ⟨hb, e⟩ | ⟨hb, e⟩ <;> rw [e]
  · exact .dropped hr hb
  · exact hu hb

/-- Every register write is one of `RegWriteResult`'s. -/
theorem writeReg_result (r : Reg) (w : Word) (s : State) : RegWriteResult r w s (writeReg r w s) := by
  cases r with
  | ctrl =>
    change RegWriteResult .ctrl w s (writeCtrl w s)
    rcases writeCtrl_cases w s with ⟨hw, e⟩ | ⟨hw, e⟩ <;> rw [e]
    · exact .softReset rfl hw
    · exact .setsIrqEn rfl hw
  | status => exact .clearsStatus rfl
  | cmd => exact regWriteResult_whenIdle rfl (.issues rfl)
  | bufLen => exact regWriteResult_whenIdle rfl (.setsBufLen rfl)
  | argOffset => exact regWriteResult_whenIdle rfl (.setsArgOffset rfl)
  | argLength => exact regWriteResult_whenIdle rfl (.setsArgLength rfl)
  | encDate => exact regWriteResult_whenIdle rfl (.setsEncDate rfl)
  | encTime => exact regWriteResult_whenIdle rfl (.setsEncTime rfl)
  | _ => exact .ignored rfl

end Sys2Proof.Machine

/-! What commands, register writes and whole steps do to the frame RAM, its size and `buf_len`, and from it that every
step keeps the buffer in bounds and the RAM well formed. -/

namespace Sys2Proof.Machine

/-! ## The three fields across the parts of a step -/

/-- No command writes the frame RAM or `buf_len` (40_command_engine.md R127). -/
theorem ExecResult.buffer_eq {i : Instr} {s t : State} (h : ExecResult i s t) :
    t.bufDepth = s.bufDepth ∧ t.bufLen = s.bufLen ∧ t.ram = s.ram := by
  cases h <;> exact ⟨rfl, rfl, rfl⟩

/-- No register write reaches the frame RAM. -/
theorem RegWriteResult.ram_eq {r : Reg} {w : Word} {s t : State} (h : RegWriteResult r w s t) :
    t.bufDepth = s.bufDepth ∧ t.ram = s.ram := by
  cases h <;> exact ⟨rfl, rfl⟩

/-- The stored minimum of 10_state.md R32 is within the frame RAM. -/
theorem writeBufLen_le (w : Word) (s : State) : (writeBufLen w s).bufLen.toNat ≤ s.bufDepth :=
  calc (BitVec.ofNat 32 (min w.toNat s.bufDepth)).toNat
      = min w.toNat s.bufDepth % 2 ^ 32 := BitVec.toNat_ofNat _ _
    _ ≤ min w.toNat s.bufDepth := Nat.mod_le _ _
    _ ≤ s.bufDepth := min_le_right _ _

theorem RegWriteResult.bufLen_le {r : Reg} {w : Word} {s t : State} (h : RegWriteResult r w s t)
    (hs : s.bufLen.toNat ≤ s.bufDepth) : t.bufLen.toNat ≤ s.bufDepth := by
  cases h with
  | softReset => exact Nat.zero_le _
  | setsBufLen => exact writeBufLen_le w s
  | _ => exact hs

theorem sampleRst_ram (level : Bool) (s : State) :
    (sampleRst level s).bufDepth = s.bufDepth ∧ (sampleRst level s).ram = s.ram := by
  cases level <;> exact ⟨rfl, rfl⟩

theorem sampleRst_bufLen (level : Bool) (s : State) :
    (sampleRst level s).bufLen = if level then s.bufLen else 0 := by
  cases level <;> rfl

/-! ## The three fields across a step -/

/-- `BUF_DEPTH` is a parameter: no step changes it (00_scope.md R7). -/
theorem StepResult.bufDepth_eq {s t : State} (h : StepResult s t) : t.bufDepth = s.bufDepth := by
  cases h with
  | quiet => rfl
  | waits => rfl
  | completes ins t _ _ _ he => exact he.buffer_eq.1
  | writesReg a r w ins => exact (writeReg_result r w _).ram_eq.1
  | writesWindow => exact whenIdle_keeps State.bufDepth rfl rfl
  | samples level ins => exact (sampleRst_ram level _).1

/-- A step keeps `buf_len` within the frame RAM (10_state.md R32). -/
theorem StepResult.bufLen_le {s t : State} (h : StepResult s t) (hs : s.bufLen.toNat ≤ s.bufDepth) :
    t.bufLen.toNat ≤ s.bufDepth := by
  cases h with
  | quiet => exact hs
  | waits => exact hs
  | completes ins t _ _ _ he =>
    obtain ⟨_, hlen, _⟩ := he.buffer_eq
    rwa [hlen]
  | writesReg a r w ins => exact (writeReg_result r w { s with inputs := ins }).bufLen_le hs
  | writesWindow a i w ins =>
    have hlen : (whenIdle { s with inputs := ins } (writeWindow i w { s with inputs := ins })).bufLen = s.bufLen :=
      whenIdle_keeps State.bufLen rfl rfl
    rwa [reply_bufLen, hlen]
  | samples level ins =>
    rw [sampleRst_bufLen]
    split
    · exact hs
    · exact Nat.zero_le _

/-- A step leaves the frame RAM or writes one byte of it that exists (20_memory.md R60, R63). -/
theorem StepResult.ram_cases {s t : State} (h : StepResult s t) :
    t.ram = s.ram ∨ ∃ i b, i < s.bufDepth ∧ t.ram = s.ram.write i b := by
  cases h with
  | quiet => exact .inl rfl
  | waits => exact .inl rfl
  | completes ins t _ _ _ he =>
    obtain ⟨_, _, hram⟩ := he.buffer_eq
    exact .inl hram
  | writesReg a r w ins => exact .inl (writeReg_result r w _).ram_eq.2
  | writesWindow a i w ins _ _ hd =>
    rcases whenIdle_cases { s with inputs := ins } (writeWindow i w { s with inputs := ins }) with ⟨_, e⟩ | ⟨_, e⟩ <;>
      rw [e]
    · exact .inl rfl
    · exact .inr ⟨i, w.extractLsb' 0 8, decodeAddr_window_lt hd, rfl⟩
  | samples level ins => exact .inl (sampleRst_ram level _).2

/-! ## The invariants -/

theorem bufferFits_kept : KeptByStep bufferFits := by
  rintro s t ⟨hmin, hmax, hlen⟩ hstep
  have h := step_cases hstep
  have hlen' := h.bufLen_le hlen
  rw [← h.bufDepth_eq] at hmin hmax hlen'
  exact ⟨hmin, hmax, hlen'⟩

/-- Writing a byte that exists keeps every listed byte one that exists. -/
theorem write_lt {m : Memory} {i d : Nat} (b : Byte) (hi : i < d) (h : ∀ c ∈ m, c.1 < d) :
    ∀ c ∈ m.write i b, c.1 < d := by
  intro c hc
  rcases mem_write hc with rfl | hc
  · exact hi
  · exact h c hc

theorem ramWellFormed_kept : KeptByStep ramWellFormed := by
  rintro s t ⟨hwf, hlt⟩ hstep
  have h := step_cases hstep
  unfold ramWellFormed
  rw [h.bufDepth_eq]
  rcases h.ram_cases with e | ⟨i, b, hi, e⟩ <;> rw [e]
  · exact ⟨hwf, hlt⟩
  · exact ⟨write_wf i b hwf, write_lt b hi hlt⟩

/-- Settles O53: each invariant follows from what one step can do to `BUF_DEPTH`, `buf_len` and the RAM. -/
theorem bufferAndRamStayWellFormed : Obligations.BufferAndRamStayWellFormed :=
  ⟨bufferFits_kept, ramWellFormed_kept⟩

end Sys2Proof.Machine

/-! The address map read backwards, and what a host access to a register does by the register's name
(20_memory.md R62, R66, R67). -/

namespace Sys2Proof.Machine

/-- Every register answers at its own offset, whatever the size of the frame RAM. -/
theorem decodeAddr_regAddr (d : Nat) (r : Reg) : decodeAddr d (regAddr r) = .reg r := by cases r <;> rfl

/-- An address that names a register is that register's offset. -/
theorem decodeAddr_reg {d : Nat} {a : Addr} {r : Reg} (h : decodeAddr d a = .reg r) : a.toNat = r.offset := by
  unfold decodeAddr at h
  split_ifs at h
  split at h
  · next r' hfind =>
    injection h with h
    subst h
    unfold Reg.ofOffset at hfind
    have hoff := List.find?_some hfind
    exact (beq_iff_eq.1 hoff).symm
  · cases h

/-- An address that names a byte of the window is that byte's address. -/
theorem decodeAddr_window {d : Nat} {a : Addr} {i : Nat} (h : decodeAddr d a = .window i) :
    a.toNat = windowAddr i := by
  unfold decodeAddr at h
  split_ifs at h with hmis hreg hgap hwin
  · split at h <;> cases h
  · injection h with h
    unfold windowAddr
    omega

theorem busWrite_regAddr (r : Reg) (w : Word) {s : State} (hr : s.rstN = true) :
    busWrite (regAddr r) w s = reply (.wrote .okay) (writeReg r w s) := by
  simp [busWrite, hr, decodeAddr_regAddr]

theorem busRead_regAddr (r : Reg) {s : State} (hr : s.rstN = true) :
    busRead (regAddr r) s = reply (.read .okay (readReg r s)) s := by
  simp [busRead, hr, decodeAddr_regAddr]

theorem whenIdle_idle {s : State} (hb : s.busy = false) (u : State) : whenIdle s u = u := by
  simp [whenIdle, hb]

end Sys2Proof.Machine

/-! The live groups across a step: a group changes only by a reset, a buffer mutation or a completion
(10_state.md R27, 20_memory.md R65). -/

namespace Sys2Proof.Machine

open Claims

/-- The result groups that a loaded flag speaks for, with the buffer they describe (10_state.md R27, R38). -/
structure LiveGroups where
  hdrLoaded : Bool
  hdrRaw : Vector Byte 24
  hdrOffset : Word
  pktLoaded : Bool
  payOffset : Word
  payLen : Word
  checksum : Byte
  tsLoaded : Bool
  tsRaw : Vector Byte 6
  tsOffset : Word
  viewLoaded : Bool
  viewOffset : Word
  viewLen : Word
  bufLen : Word
  ram : Memory

/-- The groups of a state. -/
def liveGroups (s : State) : LiveGroups where
  hdrLoaded := s.hdrLoaded
  hdrRaw := s.hdrRaw
  hdrOffset := s.hdrOffset
  pktLoaded := s.pktLoaded
  payOffset := s.payOffset
  payLen := s.payLen
  checksum := s.checksum
  tsLoaded := s.tsLoaded
  tsRaw := s.tsRaw
  tsOffset := s.tsOffset
  viewLoaded := s.viewLoaded
  viewOffset := s.viewOffset
  viewLen := s.viewLen
  bufLen := s.bufLen
  ram := s.ram

/-- No group is live. -/
def unloaded (s : State) : Prop :=
  s.hdrLoaded = false ∧ s.pktLoaded = false ∧ s.tsLoaded = false ∧ s.viewLoaded = false

theorem unloaded_reset (s : State) : unloaded (resetElements s) := ⟨rfl, rfl, rfl, rfl⟩

theorem unloaded_writeBufLen (w : Word) (s : State) : unloaded (writeBufLen w s) := ⟨rfl, rfl, rfl, rfl⟩

theorem unloaded_writeWindow (i : Nat) (w : Word) (s : State) : unloaded (writeWindow i w s) := ⟨rfl, rfl, rfl, rfl⟩

/-- A register write leaves the groups, or clears them all: as a soft reset or as an accepted write to `BUF_LEN`. -/
theorem RegWriteResult.liveGroups_cases {r : Reg} {w : Word} {s t : State} (h : RegWriteResult r w s t) :
    liveGroups t = liveGroups s ∨
      (unloaded t ∧ (r = .ctrl ∧ w[1] = true ∨ r = .bufLen ∧ s.busy = false)) := by
  cases h with
  | softReset hr hw => exact .inr ⟨unloaded_reset s, .inl ⟨hr, hw⟩⟩
  | setsBufLen hr hb => exact .inr ⟨unloaded_writeBufLen w s, .inr ⟨hr, hb⟩⟩
  | _ => exact .inl rfl

/-- A step leaves the groups, clears them all by a reset or a buffer mutation, or completes the command in flight. -/
theorem StepResult.liveGroups_cases {s t : State} (h : StepResult s t) :
    liveGroups t = liveGroups s ∨ (unloaded t ∧ (resetStep s ∨ mutationStep s)) ∨
      (Claims.completes s t ∧ ∃ ins, ExecResult (decode s.cmd) { s with inputs := ins } t) := by
  cases h with
  | quiet => exact .inl rfl
  | waits => exact .inl rfl
  | completes ins t hr hb hin he =>
    have hturn : s.inputs = [] ∨ (∃ rest, s.inputs = .engine :: rest) ∨ (∃ rest, s.inputs = .clock :: rest) :=
      hin.imp_right (.imp (⟨ins, ·⟩) (⟨ins, ·⟩))
    exact .inr (.inr ⟨⟨⟨hr, hb, hturn⟩, he.handshake⟩, ins, he⟩)
  | writesReg a r w ins hin hr hd =>
    have ha := decodeAddr_reg hd
    rcases (writeReg_result r w { s with inputs := ins }).liveGroups_cases with
      hsame | ⟨hclear, ⟨rfl, hw⟩ | ⟨rfl, hb⟩⟩
    · exact .inl hsame
    · obtain rfl : a = 0x000004#24 := BitVec.eq_of_toNat_eq ha
      exact .inr (.inl ⟨hclear, .inl (.inr ⟨w, ins, hin, hr, hw⟩)⟩)
    · exact .inr (.inl ⟨hclear, .inr ⟨a, w, ins, hin, hr, hb, .inl (BitVec.eq_of_toNat_eq ha)⟩⟩)
  | writesWindow a i w ins hin hr hd =>
    rcases whenIdle_cases { s with inputs := ins } (writeWindow i w { s with inputs := ins }) with
      ⟨_, e⟩ | ⟨hb, e⟩ <;> rw [e]
    · exact .inl rfl
    · exact .inr (.inl ⟨unloaded_writeWindow i w { s with inputs := ins },
        .inr ⟨a, w, ins, hin, hr, hb, .inr ⟨i, decodeAddr_window_lt hd, decodeAddr_window hd⟩⟩⟩)
  | samples level ins hin =>
    cases level with
    | true => exact .inl rfl
    | false => exact .inr (.inl ⟨unloaded_reset { s with inputs := ins }, .inl (.inl ⟨ins, hin⟩)⟩)

end Sys2Proof.Machine

/-! Who sets and who clears a loaded flag (10_state.md R27): the completions of its own command by their outcome, and
every step. -/

namespace Sys2Proof.Machine

open Claims

/-- A failure records an error: no cause has the kind number 0 (60_exceptions.md R231, R232). -/
theorem cause_kind_code_ne_zero (c : Cause) : c.kind.code ≠ 0 := by cases c <;> decide

theorem failClearsHeader_iff (i : Instr) : failClearsHeader i = true ↔ i = .hdrParse ∨ i = .pktParse := by
  cases i <;> simp [failClearsHeader]

theorem failClearsTs_iff (i : Instr) : failClearsTs i = true ↔ i = .tsDecode := by
  cases i <;> simp [failClearsTs]

theorem failClearsView_iff (i : Instr) : failClearsView i = true ↔ i = .view := by
  cases i <;> simp [failClearsView]

/-- A failure keeps a flag, or clears it where the command is the flag's own. -/
theorem failed_flag_cases (flag clears : Bool) (c : Cause) :
    (flag && !clears) = flag ∨ clears = true ∧ (flag && !clears) = decide (c.kind.code = 0) := by
  cases clears with
  | false => exact .inl (Bool.and_true flag)
  | true => exact .inr ⟨rfl, (Bool.and_false flag).trans (decide_eq_false (cause_kind_code_ne_zero c)).symm⟩

/-- Only a header or packet parse touches `hdr_loaded`, and it becomes 1 just when the parse succeeds. -/
theorem ExecResult.hdrLoaded_cases {i : Instr} {s t : State} (h : ExecResult i s t) :
    t.hdrLoaded = s.hdrLoaded ∨ (i = .hdrParse ∨ i = .pktParse) ∧ t.hdrLoaded = decide (t.errKind = 0) := by
  cases h with
  | failure c info =>
    exact (failed_flag_cases s.hdrLoaded _ c).imp_right (.imp_left (failClearsHeader_iff i).1)
  | hdrParsed hi => exact .inr ⟨.inl hi, rfl⟩
  | pktParsed hi => exact .inr ⟨.inr hi, rfl⟩
  | _ => exact .inl rfl

/-- Every header parse clears `pkt_loaded`, and otherwise only a packet parse touches it. -/
theorem ExecResult.pktLoaded_cases {i : Instr} {s t : State} (h : ExecResult i s t) :
    t.pktLoaded = s.pktLoaded ∨ (i = .hdrParse ∧ t.pktLoaded = false) ∨
      (i = .pktParse ∧ t.pktLoaded = decide (t.errKind = 0)) := by
  cases h with
  | failure c info =>
    rcases failed_flag_cases s.pktLoaded (failClearsHeader i) c with e | ⟨hi, e⟩
    · exact .inl e
    · rcases (failClearsHeader_iff i).1 hi with hi | hi
      · exact .inr (.inl ⟨hi, e.trans (decide_eq_false (cause_kind_code_ne_zero c))⟩)
      · exact .inr (.inr ⟨hi, e⟩)
  | hdrParsed hi => exact .inr (.inl ⟨hi, rfl⟩)
  | pktParsed hi => exact .inr (.inr ⟨hi, rfl⟩)
  | _ => exact .inl rfl

theorem ExecResult.tsLoaded_cases {i : Instr} {s t : State} (h : ExecResult i s t) :
    t.tsLoaded = s.tsLoaded ∨ i = .tsDecode ∧ t.tsLoaded = decide (t.errKind = 0) := by
  cases h with
  | failure c info => exact (failed_flag_cases s.tsLoaded _ c).imp_right (.imp_left (failClearsTs_iff i).1)
  | tsDecoded hi => exact .inr ⟨hi, rfl⟩
  | _ => exact .inl rfl

theorem ExecResult.viewLoaded_cases {i : Instr} {s t : State} (h : ExecResult i s t) :
    t.viewLoaded = s.viewLoaded ∨ i = .view ∧ t.viewLoaded = decide (t.errKind = 0) := by
  cases h with
  | failure c info => exact (failed_flag_cases s.viewLoaded _ c).imp_right (.imp_left (failClearsView_iff i).1)
  | view hi => exact .inr ⟨hi, rfl⟩
  | _ => exact .inl rfl

/-- The lifecycle of one loaded flag over a step: it stays, or falls with a reset or a mutation, or takes the outcome of
a completion of its own command. -/
def FlagFollows (flag : State → Bool) (own : Instr → Prop) (s t : State) : Prop :=
  flag t = flag s ∨ (flag t = false ∧ (resetStep s ∨ mutationStep s)) ∨
    (Claims.completes s t ∧ own (decode s.cmd) ∧ flag t = decide (t.errKind = 0))

theorem FlagFollows.set {flag : State → Bool} {own : Instr → Prop} {s t : State} (h : FlagFollows flag own s t)
    (hs : flag s = false) (ht : flag t = true) : Claims.completes s t ∧ own (decode s.cmd) ∧ t.errKind = 0 := by
  rcases h with e | ⟨e, _⟩ | ⟨hc, hown, e⟩
  · simp [e, hs] at ht
  · simp [e] at ht
  · exact ⟨hc, hown, of_decide_eq_true (e ▸ ht)⟩

theorem FlagFollows.clear {flag : State → Bool} {own : Instr → Prop} {s t : State} (h : FlagFollows flag own s t)
    (hs : flag s = true) (ht : flag t = false) :
    resetStep s ∨ mutationStep s ∨ Claims.completes s t ∧ own (decode s.cmd) ∧ t.errKind ≠ 0 := by
  rcases h with e | ⟨_, hr | hm⟩ | ⟨hc, hown, e⟩
  · simp [e, hs] at ht
  · exact .inl hr
  · exact .inr (.inl hm)
  · exact .inr (.inr ⟨hc, hown, of_decide_eq_false (e ▸ ht)⟩)

theorem StepResult.hdrLoaded_follows {s t : State} (h : StepResult s t) :
    FlagFollows State.hdrLoaded (fun i => i = .hdrParse ∨ i = .pktParse) s t := by
  rcases h.liveGroups_cases with e | ⟨⟨hf, _, _, _⟩, hwhy⟩ | ⟨hc, ins, he⟩
  · exact .inl (congrArg LiveGroups.hdrLoaded e)
  · exact .inr (.inl ⟨hf, hwhy⟩)
  · exact he.hdrLoaded_cases.imp_right fun hown => .inr ⟨hc, hown⟩

theorem StepResult.tsLoaded_follows {s t : State} (h : StepResult s t) :
    FlagFollows State.tsLoaded (· = .tsDecode) s t := by
  rcases h.liveGroups_cases with e | ⟨⟨_, _, hf, _⟩, hwhy⟩ | ⟨hc, ins, he⟩
  · exact .inl (congrArg LiveGroups.tsLoaded e)
  · exact .inr (.inl ⟨hf, hwhy⟩)
  · exact he.tsLoaded_cases.imp_right fun hown => .inr ⟨hc, hown⟩

theorem StepResult.viewLoaded_follows {s t : State} (h : StepResult s t) :
    FlagFollows State.viewLoaded (· = .view) s t := by
  rcases h.liveGroups_cases with e | ⟨⟨_, _, _, hf⟩, hwhy⟩ | ⟨hc, ins, he⟩
  · exact .inl (congrArg LiveGroups.viewLoaded e)
  · exact .inr (.inl ⟨hf, hwhy⟩)
  · exact he.viewLoaded_cases.imp_right fun hown => .inr ⟨hc, hown⟩

/-- `pkt_loaded` has one way more to fall: the completion of an `HDR_PARSE`, whatever its outcome (R150). -/
theorem StepResult.pktLoaded_follows {s t : State} (h : StepResult s t) :
    FlagFollows State.pktLoaded (· = .pktParse) s t ∨
      (Claims.completes s t ∧ decode s.cmd = .hdrParse ∧ t.pktLoaded = false) := by
  rcases h.liveGroups_cases with e | ⟨⟨_, hf, _, _⟩, hwhy⟩ | ⟨hc, ins, he⟩
  · exact .inl (.inl (congrArg LiveGroups.pktLoaded e))
  · exact .inl (.inr (.inl ⟨hf, hwhy⟩))
  · rcases he.pktLoaded_cases with e | hhdr | hown
    · exact .inl (.inl e)
    · exact .inr ⟨hc, hhdr⟩
    · exact .inl (.inr (.inr ⟨hc, hown⟩))

theorem StepResult.pktLoaded_set {s t : State} (h : StepResult s t) (hs : s.pktLoaded = false)
    (ht : t.pktLoaded = true) : Claims.completes s t ∧ decode s.cmd = .pktParse ∧ t.errKind = 0 := by
  rcases h.pktLoaded_follows with hf | ⟨_, _, e⟩
  · exact hf.set hs ht
  · simp [e] at ht

theorem StepResult.pktLoaded_clear {s t : State} (h : StepResult s t) (hs : s.pktLoaded = true)
    (ht : t.pktLoaded = false) :
    resetStep s ∨ mutationStep s ∨
      Claims.completes s t ∧ (decode s.cmd = .hdrParse ∨ decode s.cmd = .pktParse ∧ t.errKind ≠ 0) := by
  rcases h.pktLoaded_follows with hf | ⟨hc, hhdr, _⟩
  · exact (hf.clear hs ht).imp_right (.imp_right (.imp_right .inr))
  · exact .inr (.inr ⟨hc, .inl hhdr⟩)

/-- Settles O50: each flag follows its own command, by what a step can do to the live groups. -/
theorem loadedFlagsLifecycle : Obligations.LoadedFlagsLifecycle := by
  intro s t hstep
  have h := step_cases hstep
  exact ⟨h.hdrLoaded_follows.set, h.pktLoaded_set, h.tsLoaded_follows.set, h.viewLoaded_follows.set,
    h.hdrLoaded_follows.clear, h.pktLoaded_clear, h.tsLoaded_follows.clear, h.viewLoaded_follows.clear⟩

end Sys2Proof.Machine

/-! The latched bytes of a live group describe the current buffer (10_state.md R38, R52). -/

namespace Sys2Proof.Machine

/-- What `latchesMatchRam` says of a state is a matter of its live groups. -/
theorem latchesMatchRam_congr {s t : State} (h : liveGroups t = liveGroups s) :
    latchesMatchRam t ↔ latchesMatchRam s := by
  simp only [liveGroups, LiveGroups.mk.injEq] at h
  simp only [latchesMatchRam, h]

/-- Where no group is live there is nothing to match. -/
theorem latchesMatchRam_of_unloaded {s : State} (h : unloaded s) : latchesMatchRam s := by
  obtain ⟨hhdr, hpkt, hts, _⟩ := h
  simp [latchesMatchRam, hhdr, hpkt, hts]

/-- A failure latches nothing, and raises no flag. -/
theorem commitFailure_latchesMatchRam (i : Instr) (c : Cause) (info : Word) {s : State} (hs : latchesMatchRam s) :
    latchesMatchRam (commitFailure i c info s) := by
  obtain ⟨hhdr, hts, hpkt⟩ := hs
  exact ⟨fun h => hhdr (Bool.and_elim_left h), fun h => hts (Bool.and_elim_left h),
    fun h => hpkt (Bool.and_elim_left h)⟩

/-- A completion latches the bytes it reads from the RAM, which no command writes. -/
theorem ExecResult.keeps_latchesMatchRam {i : Instr} {s t : State} (h : ExecResult i s t) (hs : latchesMatchRam s) :
    latchesMatchRam t := by
  cases h with
  | failure c info => exact commitFailure_latchesMatchRam i c info hs
  | hdrParsed =>
    obtain ⟨_, hts, _⟩ := hs
    exact ⟨fun _ k _ hk => memRead_written _ _ _ _ _ k.isLt hk, hts, fun h => absurd h Bool.false_ne_true⟩
  | pktParsed =>
    obtain ⟨_, hts, _⟩ := hs
    exact ⟨fun _ k _ hk => memRead_written _ _ _ _ _ k.isLt hk, hts,
      fun _ _ hb => congrArg Prod.fst (readByte_written hb)⟩
  | tsDecoded =>
    obtain ⟨hhdr, _, hpkt⟩ := hs
    exact ⟨hhdr, fun _ k _ hk => memRead_written _ _ _ _ _ k.isLt hk, hpkt⟩
  | _ => exact hs

/-- Settles O57: a step keeps the groups, leaves none live, or completes a command, which latches what it reads. -/
theorem liveLatchesMatchTheRam : Obligations.LiveLatchesMatchTheRam := by
  intro s t hs hstep
  rcases (step_cases hstep).liveGroups_cases with e | ⟨hnone, _⟩ | ⟨_, ins, he⟩
  · exact (latchesMatchRam_congr e).2 hs
  · exact latchesMatchRam_of_unloaded hnone
  · exact he.keeps_latchesMatchRam hs

end Sys2Proof.Machine

/-! `valid` across the completions (10_state.md R28, 40_command_engine.md R125, R126). -/

namespace Sys2Proof.Machine

theorem successSetsValid_iff (i : Instr) : successSetsValid i = true ↔ i = .hdrValidate ∨ i = .pktValidate := by
  cases i <;> simp [successSetsValid]

/-- Every completion ends in one of the two commits (40_command_engine.md R124). -/
theorem ExecResult.commit_cases {i : Instr} {s t : State} (h : ExecResult i s t) :
    (∃ u, t = commitSuccess i u) ∨ ∃ c info, t = commitFailure i c info s := by
  cases h with
  | failure c info => exact .inr ⟨c, info, rfl⟩
  | _ => exact .inl ⟨_, rfl⟩

theorem ExecResult.valid_iff {i : Instr} {s t : State} (h : ExecResult i s t) :
    t.valid = true ↔ (i = .hdrValidate ∨ i = .pktValidate) ∧ t.errKind = 0 := by
  rcases h.commit_cases with ⟨u, rfl⟩ | ⟨c, info, rfl⟩
  · rw [commitSuccess_valid, commitSuccess_errKind, successSetsValid_iff]
    exact (and_iff_left rfl).symm
  · exact iff_of_false Bool.false_ne_true fun ⟨_, hkind⟩ => cause_kind_code_ne_zero c hkind

/-- Settles O23, by the commit that each completion ends in. -/
theorem validOnlyAfterAPassedValidation : Obligations.ValidOnlyAfterAPassedValidation :=
  ⟨fun _ _ _ h => (exec_cases h).valid_iff, resetElements_valid,
    fun s w i => ⟨writeBufLen_valid w s, writeWindow_valid i w s⟩⟩

end Sys2Proof.Machine

/-! Words by their numbers: the fields of a word, and the lanes of a register (20_memory.md R71). -/

namespace Sys2Proof.Machine

/-- The number of a concatenation, from which the register layouts are read. -/
theorem append_toNat {m n : Nat} (x : BitVec m) (y : BitVec n) : (x ++ y).toNat = x.toNat * 2 ^ n + y.toNat := by
  rw [BitVec.toNat_append, ← Nat.shiftLeft_add_eq_or_of_lt y.isLt, Nat.shiftLeft_eq]

/-- A bit of a word, from the word's number. -/
theorem getElem_eq_of_toNat {x : Word} {i : Nat} {hi : i < 32} {b : Bool} (h : x.toNat / 2 ^ i % 2 = b.toNat) :
    x[i] = b := by
  rw [BitVec.getElem_eq_testBit_toNat, Nat.testBit_eq_decide_div_mod_eq, h]
  cases b <;> rfl

/-- A field of a word, from the word's number. -/
theorem extractLsb'_eq_of_toNat {x : Word} {start len : Nat} {v : BitVec len}
    (h : x.toNat / 2 ^ start % 2 ^ len = v.toNat) : x.extractLsb' start len = v := by
  apply BitVec.eq_of_toNat_eq
  rw [BitVec.extractLsb'_toNat, Nat.shiftRight_eq_div_pow, h]

theorem extractLsb'_eq_ofNat_div (start len : Nat) (w : Word) :
    w.extractLsb' start len = BitVec.ofNat len (w.toNat / 2 ^ start) :=
  extractLsb'_eq_of_toNat (BitVec.toNat_ofNat _ _).symm

theorem lanes_toNat (b0 b1 b2 b3 : Byte) :
    (lanes b0 b1 b2 b3).toNat = b3.toNat * 2 ^ 24 + b2.toNat * 2 ^ 16 + b1.toNat * 2 ^ 8 + b0.toNat := by
  simp only [lanes, append_toNat]
  omega

/-- Each lane holds its byte. -/
theorem lanes_byte (b0 b1 b2 b3 : Byte) (k : Fin 4) :
    (lanes b0 b1 b2 b3).extractLsb' (8 * k) 8 = #v[b0, b1, b2, b3][k] := by
  apply extractLsb'_eq_of_toNat
  rw [lanes_toNat]
  match k with
  | 0 | 1 | 2 | 3 => simp; omega

/-- The two high lanes of a register that holds two bytes read 0. -/
theorem lanes_high_zero (b0 b1 : Byte) : (lanes b0 b1 0#8 0#8).extractLsb' 16 16 = 0 := by
  apply extractLsb'_eq_of_toNat
  rw [lanes_toNat]
  change (0 * 2 ^ 24 + 0 * 2 ^ 16 + b1.toNat * 2 ^ 8 + b0.toNat) / 2 ^ 16 % 2 ^ 16 = 0
  omega

end Sys2Proof.Machine

/-! The operand registers (10_state.md R32 to R36): what a write stores and a read returns. -/

namespace Sys2Proof.Machine

theorem readReg_encDate_toNat (s : State) :
    (readReg .encDate s).toNat = s.encDay.toNat * 2 ^ 24 + s.encMonth.toNat * 2 ^ 16 + s.encYear.toNat := by
  simp only [readReg, append_toNat]
  omega

theorem readReg_encTime_toNat (s : State) :
    (readReg .encTime s).toNat = s.encSecond.toNat * 2 ^ 16 + s.encMinute.toNat * 2 ^ 8 + s.encHour.toNat := by
  simp only [readReg, append_toNat, BitVec.toNat_ofNat]
  omega

/-- `ENC_DATE` reads back the word written (10_state.md R35). -/
theorem readReg_writeEncDate (w : Word) (s : State) : readReg .encDate (writeEncDate w s) = w := by
  apply BitVec.eq_of_toNat_eq
  rw [readReg_encDate_toNat]
  simp only [writeEncDate, BitVec.extractLsb'_toNat, Nat.shiftRight_eq_div_pow]
  omega

/-- `ENC_TIME` reads back the word written without bits [31:24] (10_state.md R36). -/
theorem readReg_writeEncTime (w : Word) (s : State) :
    readReg .encTime (writeEncTime w s) = w &&& 0x00FFFFFF#32 := by
  apply BitVec.eq_of_toNat_eq
  have hmask : (w &&& 0x00FFFFFF#32).toNat = w.toNat % 2 ^ 24 := by
    rw [BitVec.toNat_and]
    exact Nat.and_two_pow_sub_one_eq_mod w.toNat 24
  rw [readReg_encTime_toNat, hmask]
  simp only [writeEncTime, BitVec.extractLsb'_toNat, Nat.shiftRight_eq_div_pow]
  omega

theorem writeEncDate_eq (w : Word) (s : State) :
    writeEncDate w s =
      { s with
        encYear := BitVec.ofNat 16 w.toNat, encMonth := BitVec.ofNat 8 (w.toNat / 2 ^ 16),
        encDay := BitVec.ofNat 8 (w.toNat / 2 ^ 24) } := by
  simp only [writeEncDate, extractLsb'_eq_ofNat_div, pow_zero, Nat.div_one]

theorem writeEncTime_eq (w : Word) (s : State) :
    writeEncTime w s =
      { s with
        encHour := BitVec.ofNat 8 w.toNat, encMinute := BitVec.ofNat 8 (w.toNat / 2 ^ 8),
        encSecond := BitVec.ofNat 8 (w.toNat / 2 ^ 16) } := by
  simp only [writeEncTime, extractLsb'_eq_ofNat_div, pow_zero, Nat.div_one]

/-- An idle write to a register whose accepted write is `u` leaves `u` and the reply. -/
theorem busWrite_idle {r : Reg} {w : Word} {s u : State} (hr : s.rstN = true) (hb : s.busy = false)
    (hw : writeReg r w s = whenIdle s u) : busWrite (regAddr r) w s = reply (.wrote .okay) u := by
  rw [busWrite_regAddr r w hr, hw, whenIdle_idle hb]

/-- No register shows the host port's reply. -/
@[simp] theorem readReg_reply (r : Reg) (b : BusReply) (s : State) : readReg r (reply b s) = readReg r s := by
  cases r <;> rfl

/-- A register read after an idle write answers what the register holds then. -/
theorem busRead_busWrite_idle {r : Reg} {w : Word} {s u : State} (hr : s.rstN = true) (hb : s.busy = false)
    (hw : writeReg r w s = whenIdle s u) (hu : u.rstN = true) :
    (busRead (regAddr r) (busWrite (regAddr r) w s)).bus = .read .okay (readReg r u) := by
  rw [busWrite_idle hr hb hw, busRead_regAddr r (s := reply (.wrote .okay) u) hu, readReg_reply]
  rfl

theorem encDate_read_back (w : Word) {s : State} (hr : s.rstN = true) (hb : s.busy = false) :
    (busRead (regAddr .encDate) (busWrite (regAddr .encDate) w s)).bus = .read .okay w := by
  rw [busRead_busWrite_idle (u := writeEncDate w s) hr hb rfl hr, readReg_writeEncDate]

theorem encTime_read_back (w : Word) {s : State} (hr : s.rstN = true) (hb : s.busy = false) :
    (busRead (regAddr .encTime) (busWrite (regAddr .encTime) w s)).bus = .read .okay (w &&& 0x00FFFFFF#32) := by
  rw [busRead_busWrite_idle (u := writeEncTime w s) hr hb rfl hr, readReg_writeEncTime]

/-- Settles O33: an idle write stores the word's fields, and a read puts them together again. -/
theorem operandRegistersHoldWhatIsWritten : Obligations.OperandRegistersHoldWhatIsWritten := by
  refine ⟨fun s w hr hb => ?_, rfl, rfl⟩
  have hdate := busWrite_idle (r := .encDate) (w := w) hr hb rfl
  have htime := busWrite_idle (r := .encTime) (w := w) hr hb rfl
  rw [writeEncDate_eq] at hdate
  rw [writeEncTime_eq] at htime
  exact ⟨busWrite_idle (r := .argOffset) hr hb rfl, busWrite_idle (r := .argLength) hr hb rfl, hdate, htime,
    busRead_busWrite_idle (r := .argOffset) (u := { s with argOffset := w }) hr hb rfl hr,
    busRead_busWrite_idle (r := .argLength) (u := { s with argLength := w }) hr hb rfl hr,
    encDate_read_back w hr hb, encTime_read_back w hr hb⟩

/-- The stored minimum of 10_state.md R32 is the word itself where it fits. -/
theorem min_bufDepth_eq (w : Word) (d : Nat) :
    BitVec.ofNat 32 (min w.toNat d) = if w.toNat ≤ d then w else BitVec.ofNat 32 d := by
  split_ifs with h
  · rw [min_eq_left h, BitVec.ofNat_toNat, BitVec.setWidth_eq]
  · rw [min_eq_right (not_le.1 h).le]

/-- Settles O34: the write is the idle one, whose stored value is the minimum. -/
theorem bufLenWrite : Obligations.BufLenWrite := by
  refine ⟨fun s w hr hb => ?_, fun s hr => ?_, rfl⟩
  · have hlen : busWrite 0x000010#24 w s = _ := busWrite_idle (r := .bufLen) hr hb rfl
    rw [hlen, ← min_bufDepth_eq]
    rfl
  · exact congrArg State.bus (busRead_regAddr .bufLen hr)

end Sys2Proof.Machine

/-! The layout of `STATUS` (10_state.md R26, R29, R30). -/

namespace Sys2Proof.Machine

theorem statusWord_toNat (s : State) :
    (statusWord s).toNat =
      s.errCause.toNat * 2 ^ 16 + s.errKind.toNat * 2 ^ 12 + s.wrBusy.toNat * 2 ^ 9 + (lenMismatch s).toNat * 2 ^ 8 +
        s.valid.toNat * 2 ^ 7 + s.viewLoaded.toNat * 2 ^ 6 + s.tsLoaded.toNat * 2 ^ 5 + s.pktLoaded.toNat * 2 ^ 4 +
        s.hdrLoaded.toNat * 2 ^ 3 + (errFlag s).toNat * 2 ^ 2 + s.done.toNat * 2 + s.busy.toNat := by
  simp only [statusWord, append_toNat, BitVec.toNat_ofBool, BitVec.toNat_ofNat]
  omega

/-- Each bit and field of `STATUS`, from the word's number: every flag is at most 1, so no sum carries. -/
theorem statusWord_layout (s : State) :
    (statusWord s)[0] = s.busy ∧ (statusWord s)[1] = s.done ∧ (statusWord s)[2] = errFlag s ∧
    (statusWord s)[3] = s.hdrLoaded ∧ (statusWord s)[4] = s.pktLoaded ∧ (statusWord s)[5] = s.tsLoaded ∧
    (statusWord s)[6] = s.viewLoaded ∧ (statusWord s)[7] = s.valid ∧ (statusWord s)[8] = lenMismatch s ∧
    (statusWord s)[9] = s.wrBusy ∧ (statusWord s).extractLsb' 10 2 = 0 ∧
    (statusWord s).extractLsb' 12 4 = s.errKind ∧ (statusWord s).extractLsb' 16 8 = s.errCause ∧
    (statusWord s).extractLsb' 24 8 = 0 := by
  have hword := statusWord_toNat s
  have hbusy := s.busy.toNat_le
  have hdone := s.done.toNat_le
  have herr := (errFlag s).toNat_le
  have hhdr := s.hdrLoaded.toNat_le
  have hpkt := s.pktLoaded.toNat_le
  have hts := s.tsLoaded.toNat_le
  have hview := s.viewLoaded.toNat_le
  have hvalid := s.valid.toNat_le
  have hmis := (lenMismatch s).toNat_le
  have hwr := s.wrBusy.toNat_le
  have hzero (n : Nat) : (0 : BitVec n).toNat = 0 := BitVec.toNat_zero
  refine ⟨getElem_eq_of_toNat ?_, getElem_eq_of_toNat ?_, getElem_eq_of_toNat ?_, getElem_eq_of_toNat ?_,
    getElem_eq_of_toNat ?_, getElem_eq_of_toNat ?_, getElem_eq_of_toNat ?_, getElem_eq_of_toNat ?_,
    getElem_eq_of_toNat ?_, getElem_eq_of_toNat ?_, extractLsb'_eq_of_toNat ((hzero 2).symm ▸ ?_),
    extractLsb'_eq_of_toNat ?_, extractLsb'_eq_of_toNat ?_, extractLsb'_eq_of_toNat ((hzero 8).symm ▸ ?_)⟩
  all_goals omega

theorem errFlag_eq (s : State) : errFlag s = decide (s.errKind ≠ 0) := by
  rw [errFlag, Bool.eq_iff_iff, bne_iff_ne, decide_eq_true_iff]
  rfl

theorem dataLengthOf_toNat (h : Vector Byte 24) : (dataLengthOf h).toNat = h[22].toNat * 256 + h[23].toNat :=
  append_toNat h[22] h[23]

/-- `LEN_MISMATCH` compares the payload's length with the declared one as numbers (10_state.md R29). -/
theorem lenMismatch_eq (s : State) :
    lenMismatch s = (s.pktLoaded && decide (s.payLen.toNat ≠ s.hdrRaw[22].toNat * 256 + s.hdrRaw[23].toNat)) := by
  have hdeclared : ((dataLengthOf s.hdrRaw).setWidth 32).toNat = s.hdrRaw[22].toNat * 256 + s.hdrRaw[23].toNat := by
    rw [BitVec.toNat_setWidth_of_le (by decide), dataLengthOf_toNat]
  have hne : (s.payLen != (dataLengthOf s.hdrRaw).setWidth 32) =
      decide (s.payLen.toNat ≠ s.hdrRaw[22].toNat * 256 + s.hdrRaw[23].toNat) := by
    rw [← hdeclared, Bool.eq_iff_iff, bne_iff_ne, decide_eq_true_iff, BitVec.toNat_ne_iff_ne]
  rw [lenMismatch, hne]

/-- Settles O38, from the layout of the word and the two derived bits. -/
theorem statusWordLayout : Obligations.StatusWordLayout := by
  refine ⟨fun s => ?_, fun s w hr => busWrite_regAddr .status w hr, by decide⟩
  rw [← errFlag_eq, ← lenMismatch_eq]
  exact statusWord_layout s

end Sys2Proof.Machine

/-! `HDR_VIN_LEN` (10_state.md R43): the first NUL among the VIN bytes. -/

namespace Sys2Proof.Machine

theorem vinBytes_length (h : Vector Byte 24) : (vinBytes h).length = 17 := by simp [vinBytes]

theorem vinBytes_getElem (h : Vector Byte 24) (j : Nat) (hj : j < 17) :
    (vinBytes h)[j]'((vinBytes_length h).symm ▸ hj) = h[4 + j] := by
  simp [vinBytes]

theorem vinLength_le (h : Vector Byte 24) : vinLength h ≤ 17 := vinBytes_length h ▸ List.findIdx_le_length

/-- A VIN length below 17 is the index of the first NUL. -/
theorem vinLength_eq_iff (h : Vector Byte 24) (j : Fin 17) :
    vinLength h = j.val ↔ h[4 + j.val] = 0x00#8 ∧ ∀ k : Fin 17, k < j → h[4 + k.val] ≠ 0x00#8 := by
  have hj : j.val < (vinBytes h).length := (vinBytes_length h).symm ▸ j.isLt
  unfold vinLength
  rw [List.findIdx_eq hj, vinBytes_getElem h j j.isLt, beq_iff_eq]
  refine and_congr_right fun _ => ⟨fun hmin k hkj => ?_, fun hmin k hkj => ?_⟩
  · have hk := hmin k hkj
    rwa [vinBytes_getElem h k k.isLt, beq_eq_false_iff_ne] at hk
  · have hk : k < 17 := hkj.trans j.isLt
    rw [vinBytes_getElem h k hk, beq_eq_false_iff_ne]
    exact hmin ⟨k, hk⟩ hkj

/-- A VIN length of 17 is a VIN without NUL. -/
theorem vinLength_eq_17_iff (h : Vector Byte 24) : vinLength h = 17 ↔ ∀ j : Fin 17, h[4 + j.val] ≠ 0x00#8 := by
  constructor
  · intro hfull j
    have hall := List.findIdx_eq_length.1 (hfull.trans (vinBytes_length h).symm)
    have hmem : h[4 + j.val] ∈ vinBytes h := vinBytes_getElem h j j.isLt ▸ List.getElem_mem _
    exact beq_eq_false_iff_ne.1 (hall _ hmem)
  · intro hno
    refine (vinLength_le h).antisymm (not_lt.1 fun hlt => ?_)
    exact hno ⟨vinLength h, hlt⟩ ((vinLength_eq_iff h ⟨vinLength h, hlt⟩).1 rfl).1

theorem readReg_hdrVinLen_toNat (s : State) : (readReg .hdrVinLen s).toNat = vinLength s.hdrRaw := by
  have hle := vinLength_le s.hdrRaw
  exact (BitVec.toNat_ofNat _ _).trans (Nat.mod_eq_of_lt (by omega))

/-- The VIN check fails only a VIN with a NUL (42_header.md R152). -/
theorem vinLength_lt_of_vinLengthInvalid {h : Vector Byte 24} {info : Word}
    (hc : headerCheck h = some (.vinLengthInvalid, info)) : vinLength h < 17 := by
  unfold headerCheck at hc
  split_ifs at hc with hmagic hrsp henc hvin
  · cases hc
  · cases hc
  · cases hc
  · exact hvin

theorem vinLength_of_headerCheck_none {h : Vector Byte 24} (hc : headerCheck h = none) : vinLength h = 17 := by
  unfold headerCheck at hc
  split_ifs at hc with hmagic hrsp henc hvin
  exact (vinLength_le h).antisymm (not_lt.1 hvin)

/-- Settles O41, by the characterisation of the first NUL. -/
theorem vinLengthRegister : Obligations.VinLengthRegister := by
  refine ⟨fun s => ?_, by decide⟩
  rw [readReg_hdrVinLen_toNat]
  exact ⟨vinLength_eq_iff s.hdrRaw, vinLength_eq_17_iff s.hdrRaw, vinLength_le s.hdrRaw,
    fun _ hc => (vinLength_lt_of_vinLengthInvalid hc).ne, vinLength_of_headerCheck_none⟩

end Sys2Proof.Machine

/-! The timestamp registers (10_state.md R46 to R48). -/

namespace Sys2Proof.Machine

theorem s8_eq_toInt (b : Byte) : s8 b = b.toInt := by
  rw [BitVec.toInt_eq_toNat_cond, s8]
  split_ifs <;> omega

/-- `tc32` loses nothing of an integer of 32 signed bits (00_scope.md R9). -/
theorem tc32_toInt {x : Int} (hlo : -2 ^ 31 ≤ x) (hhi : x < 2 ^ 31) : (tc32 x).toInt = x :=
  BitVec.toInt_ofInt_eq_self (by decide) hlo hhi

theorem readReg_tsYear_toInt (s : State) : (readReg .tsYear s).toInt = 100 + s.tsRaw[0].toInt := by
  have hlo := s.tsRaw[0].le_toInt
  have hhi := s.tsRaw[0].toInt_lt
  change (tc32 (100 + s8 s.tsRaw[0])).toInt = _
  rw [s8_eq_toInt]
  exact tc32_toInt (by omega) (by omega)

theorem readReg_tsMon0_toInt (s : State) : (readReg .tsMon0 s).toInt = (s.tsRaw[1].toNat : Int) - 1 := by
  have hlt := s.tsRaw[1].isLt
  exact tc32_toInt (by omega) (by omega)

/-- Settles O42: the two signed registers as integers, the other two by their lanes. -/
theorem timestampRegisters : Obligations.TimestampRegisters := by
  intro s
  have hlo := s.tsRaw[0].le_toInt
  have hhi := s.tsRaw[0].toInt_lt
  have hmon := s.tsRaw[1].isLt
  rw [readReg_tsYear_toInt, readReg_tsMon0_toInt]
  exact ⟨rfl, ⟨by omega, by omega⟩, rfl, ⟨by omega, by omega⟩,
    lanes_byte _ _ _ _ 0, lanes_byte _ _ _ _ 1, lanes_high_zero _ _,
    lanes_byte _ _ _ _ 0, lanes_byte _ _ _ _ 1, lanes_byte _ _ _ _ 2, lanes_byte _ _ _ _ 3⟩

/-- A register of four lanes shows four consecutive bytes of a sequence. -/
theorem lanes_of_vector (v : Vector Byte 6) (k : Fin 4) :
    (lanes v[0] v[1] v[2] v[3]).extractLsb' (8 * k) 8 = v[k.val] := by
  rw [lanes_byte]
  match k with
  | 0 | 1 | 2 | 3 => rfl

theorem lanes_of_vector_high (v : Vector Byte 6) (k : Fin 2) :
    (lanes v[4] v[5] 0#8 0#8).extractLsb' (8 * k) 8 = v[4 + k.val] := by
  match k with
  | 0 => exact lanes_byte _ _ _ _ 0
  | 1 => exact lanes_byte _ _ _ _ 1

theorem readReg_bufDepth_toNat {s : State} (h : s.bufDepth ≤ Config.bufDepthMax) :
    (readReg .bufDepth s).toNat = s.bufDepth :=
  (BitVec.toNat_ofNat _ _).trans (Nat.mod_eq_of_lt (h.trans_lt (by decide)))

/-- Settles O43: the lanes of the byte registers; the others read their elements by definition. -/
theorem resultRegistersShowElements : Obligations.ResultRegistersShowElements := fun s =>
  ⟨fun k => ⟨lanes_of_vector s.tsRaw k, lanes_of_vector s.tsOut k⟩,
    fun k => ⟨lanes_of_vector_high s.tsRaw k, lanes_of_vector_high s.tsOut k⟩,
    lanes_high_zero _ _, lanes_high_zero _ _, rfl, rfl, rfl, rfl,
    BitVec.toNat_setWidth_of_le (by decide), rfl, rfl, rfl, readReg_bufDepth_toNat, rfl, rfl, rfl, rfl, rfl,
    readReg_encDate_toNat s, readReg_encTime_toNat s⟩

end Sys2Proof.Machine

/-! The state after reset (10_state.md R53, 70_reset_and_hazards.md R263). -/

namespace Sys2Proof.Machine

theorem bufferFits_reset : bufferFits State.reset := by
  unfold bufferFits
  decide

theorem ramWellFormed_reset : ramWellFormed State.reset := ⟨reset_ram_wf, fun _ hc => absurd hc List.not_mem_nil⟩

theorem handshakeConsistent_reset : handshakeConsistent State.reset := ⟨fun _ => rfl, fun _ => ⟨rfl, rfl, rfl⟩⟩

theorem unloaded_stateReset : unloaded State.reset := ⟨rfl, rfl, rfl, rfl⟩

/-- Where no group is live every view is in bounds. -/
theorem liveViewsInBounds_of_unloaded {s : State} (h : unloaded s) : liveViewsInBounds s := by
  obtain ⟨hhdr, hpkt, hts, hview⟩ := h
  simp [liveViewsInBounds, hhdr, hpkt, hts, hview]

/-- Settles O60: after reset no group is live, no command is in flight and no error is recorded. -/
theorem resetMeetsTheInvariants : Obligations.ResetMeetsTheInvariants :=
  ⟨bufferFits_reset, ramWellFormed_reset, .inl ⟨rfl, rfl, rfl⟩, handshakeConsistent_reset,
    liveViewsInBounds_of_unloaded unloaded_stateReset, latchesMatchRam_of_unloaded unloaded_stateReset,
    fun hlow => absurd hlow (by decide), fun hbusy => absurd hbusy (by decide)⟩

end Sys2Proof.Machine

/-! The whole address map (20_memory.md R62, R66, R67, R69): the window's addresses, the register table, and the
addresses that name nothing. -/

namespace Sys2Proof.Machine

open Claims

/-- The window's word for RAM byte `i` lies in the 24-bit address space. -/
theorem windowAddr_toNat {d i : Nat} (hd : d ≤ Config.bufDepthMax) (hi : i < d) :
    (BitVec.ofNat 24 (windowAddr i)).toNat = windowAddr i := by
  unfold Config.bufDepthMax at hd
  rw [BitVec.toNat_ofNat]
  exact Nat.mod_eq_of_lt (by unfold windowAddr; omega)

/-- Every byte of a legal frame RAM answers at its window address. -/
theorem decodeAddr_windowAddr {d i : Nat} (hd : d ≤ Config.bufDepthMax) (hi : i < d) :
    decodeAddr d (BitVec.ofNat 24 (windowAddr i)) = .window i := by
  have haligned : windowAddr i % 4 = 0 := by unfold windowAddr; omega
  have hreg : ¬windowAddr i < 0x001000 := by unfold windowAddr; omega
  have hgap : ¬windowAddr i < 0x010000 := by unfold windowAddr; omega
  have hindex : (windowAddr i - 0x010000) / 4 = i := by unfold windowAddr; omega
  simp [decodeAddr, windowAddr_toNat hd hi, haligned, hreg, hgap, hindex, hi]

/-- A row of the register table is its register's own offset and access type. -/
theorem registerTable_row {r : Reg} {n : Nat} {k : Access} (h : (r, n, k) ∈ registerTable) :
    n = r.offset ∧ k = r.access := by
  have hrows : ∀ row ∈ registerTable, row.2.1 = row.1.offset ∧ row.2.2 = row.1.access := by decide
  exact hrows (r, n, k) h

/-- Every register has its row. -/
theorem mem_registerTable (r : Reg) : (r, r.offset, r.access) ∈ registerTable := by cases r <;> decide

/-- Every register stands word-aligned in the register block. -/
theorem Reg.offset_aligned (r : Reg) : r.offset % 4 = 0 ∧ r.offset < 0x001000 := by cases r <;> decide

/-- Settles O37: the window by arithmetic on its addresses, the registers by the rows of their table. -/
theorem addressMap : Obligations.AddressMap := by
  refine ⟨fun d i hd hi => ⟨decodeAddr_windowAddr hd hi, ?_⟩, fun d r n k hrow => ?_,
    fun r => ⟨_, _, mem_registerTable r⟩⟩
  · unfold Config.bufDepthMax at hd
    omega
  · obtain ⟨rfl, rfl⟩ := registerTable_row hrow
    exact ⟨decodeAddr_regAddr d r, rfl, rfl, r.offset_aligned⟩

/-- An offset that no register has is not listed. -/
theorem Reg.ofOffset_eq_none {n : Nat} (h : ∀ r : Reg, r.offset ≠ n) : Reg.ofOffset n = none :=
  List.find?_eq_none.2 fun r _ hr => h r (beq_iff_eq.1 hr)

/-- The addresses that name nothing: misaligned, unlisted in the register block, between the block and the window, or
past the window. -/
theorem decodeAddr_unmapped {d : Nat} {a : Addr}
    (h : a.toNat % 4 ≠ 0 ∨ (a.toNat < 0x001000 ∧ ∀ r : Reg, r.offset ≠ a.toNat) ∨
      (0x001000 ≤ a.toNat ∧ a.toNat < 0x010000) ∨ 0x010000 + 4 * d ≤ a.toNat) :
    decodeAddr d a = .unmapped := by
  unfold decodeAddr
  split_ifs with hmis hreg hgap hwin
  · rfl
  · have hlisted : ∀ r : Reg, r.offset ≠ a.toNat := by
      rcases h with h | ⟨_, h⟩ | ⟨h, _⟩ | h
      · exact absurd h hmis
      · exact h
      · omega
      · omega
    rw [Reg.ofOffset_eq_none hlisted]
  · rfl
  · omega
  · rfl

theorem busWrite_unmapped {a : Addr} {s : State} (w : Word) (hr : s.rstN = true)
    (hd : decodeAddr s.bufDepth a = .unmapped) : busWrite a w s = reply (.wrote .error) s := by
  simp [busWrite, hr, hd]

theorem busRead_unmapped {a : Addr} {s : State} (hr : s.rstN = true)
    (hd : decodeAddr s.bufDepth a = .unmapped) : busRead a s = reply (.read .error 0) s := by
  simp [busRead, hr, hd]

/-- Settles O31: each of the four kinds of address names nothing, and such an access only gets its reply. -/
theorem unmappedAndMisalignedAccess : Obligations.UnmappedAndMisalignedAccess := by
  intro s a w hr haddr
  have hd := decodeAddr_unmapped haddr
  exact ⟨busWrite_unmapped w hr hd, busRead_unmapped hr hd⟩

/-- A write to an `RO` register is ignored (10_state.md R22). -/
theorem writeReg_ro {r : Reg} (w : Word) (s : State) (h : r.access = .ro) : writeReg r w s = s := by
  cases r with
  | ctrl | status | cmd | bufLen | argOffset | argLength | encDate | encTime => exact absurd h (by decide)
  | _ => rfl

/-- Settles O32, by what an access at a register's own address does. -/
theorem registerAccessReplies : Obligations.RegisterAccessReplies := by
  intro s r w hr
  rw [busWrite_regAddr r w hr]
  exact ⟨busRead_regAddr r hr, rfl, fun hro => congrArg (reply (.wrote .okay)) (writeReg_ro w s hro)⟩

end Sys2Proof.Machine

/-! Accesses to the frame RAM window (20_memory.md R61, R63, R64). -/

namespace Sys2Proof.Machine

section windowAccess

variable {s : State} {i : Nat}

theorem busWrite_windowAddr (w : Word) (hr : s.rstN = true) (hi : i < s.bufDepth)
    (hd : s.bufDepth ≤ Config.bufDepthMax) :
    busWrite (BitVec.ofNat 24 (windowAddr i)) w s = reply (.wrote .okay) (whenIdle s (writeWindow i w s)) := by
  simp [busWrite, hr, decodeAddr_windowAddr hd hi]

/-- A window read answers the byte as a word and moves the draws to where reading it leaves them. -/
theorem busRead_windowAddr (hr : s.rstN = true) (hi : i < s.bufDepth) (hd : s.bufDepth ≤ Config.bufDepthMax) :
    busRead (BitVec.ofNat 24 (windowAddr i)) s =
      reply (.read .okay (BitVec.ofNat 32 (readByte s.ram i s.draws).1.toNat))
        { s with draws := (readByte s.ram i s.draws).2 } := by
  simp [busRead, hr, decodeAddr_windowAddr hd hi, BitVec.ofNat_toNat]

end windowAccess

theorem whenIdle_busy {s : State} (hb : s.busy = true) (u : State) : whenIdle s u = dropWrite s := by
  simp [whenIdle, hb]

/-- The window stores bits [7:0] at its index and keeps every other byte (20_memory.md R63). -/
theorem writeWindow_read? (i j : Nat) (w : Word) (s : State) :
    (writeWindow i w s).ram.read? j = if j = i then some (BitVec.ofNat 8 w.toNat) else s.ram.read? j := by
  rw [writeWindow_ram, read?_write, extractLsb'_eq_ofNat_div, pow_zero, Nat.div_one]

/-- Settles O35: an idle write is accepted, one in flight is dropped, and a written byte reads as it was written. -/
theorem windowWriteAndRead : Obligations.WindowWriteAndRead := by
  intro s i w hr hi hd
  have hwrite := busWrite_windowAddr w hr hi hd
  refine ⟨fun hb => ⟨(writeWindow i w s).ram, ?_, fun j => writeWindow_read? i j w s⟩, fun hb => ?_, fun b hread => ?_⟩
  · rw [whenIdle_idle hb] at hwrite
    exact hwrite
  · rw [whenIdle_busy hb] at hwrite
    exact hwrite
  · have hreply := busRead_windowAddr hr hi hd
    rw [readByte_written hread] at hreply
    exact hreply

/-- The unwritten bytes that a command reads when it succeeds (42_header.md R150, 43_packet.md R180,
44_timestamp.md R200). -/
def unwrittenReads (s : State) : Instr → Nat
  | .hdrParse => unwrittenCount s.ram (offsetArg s) 24
  | .pktParse => unwrittenCount s.ram (offsetArg s) 24 + unwrittenCount s.ram (bufferLen s - 1) 1
  | .tsDecode => unwrittenCount s.ram (offsetArg s) 6
  | _ => 0

/-- The draws of a packet parse: the header's, then the checksum byte's. -/
theorem pktParsed_draws (s : State) : (pktParsed s).draws = s.draws + unwrittenReads s .pktParse := by
  change (readByte s.ram (bufferLen s - 1) (memRead s.ram (offsetArg s) s.draws 24).2).2 = _
  rw [readByte_draws, memRead_draws]
  simp only [unwrittenReads, unwrittenCount, Nat.add_zero, Nat.zero_add, Nat.add_assoc]

/-- A completion draws once for each unwritten byte it reads, and a failure draws none (log 3). -/
theorem ExecResult.draws_eq {i : Instr} {s t : State} (h : ExecResult i s t) :
    t.draws = s.draws + if t.errKind = 0 then unwrittenReads s i else 0 := by
  cases h with
  | failure c info => rw [commitFailure_errKind, if_neg (cause_kind_code_ne_zero c)]; rfl
  | hdrParsed hi => subst hi; exact memRead_draws s.ram (offsetArg s) s.draws 24
  | pktParsed hi => subst hi; exact pktParsed_draws s
  | tsDecoded hi => subst hi; exact memRead_draws s.ram (offsetArg s) s.draws 6
  | validated hi => rcases hi with rfl | rfl <;> rfl
  | nop hi | view hi | tsEncoded hi => subst hi; rfl

theorem exec_draws_of_success {i : Instr} {s t : State} (h : exec i s = .next t) (ht : t.errKind = 0) :
    t.draws = s.draws + unwrittenReads s i := by
  rw [(exec_cases h).draws_eq, if_pos ht]

theorem exec_draws_of_failure {i : Instr} {s t : State} (h : exec i s = .next t) (ht : t.errKind ≠ 0) :
    t.draws = s.draws := by
  rw [(exec_cases h).draws_eq, if_neg ht, Nat.add_zero]

/-- Settles O36: the window by what reading an unwritten byte draws, the commands by the count of their draws. -/
theorem unwrittenByteIsAFreshDraw : Obligations.UnwrittenByteIsAFreshDraw := by
  refine ⟨fun s i hr hi hd hread => ?_, fun _ _ => exec_draws_of_success, fun s t h ht => ?_,
    fun _ _ => exec_draws_of_success, fun _ _ _ => exec_draws_of_failure⟩
  · have hreply := busRead_windowAddr hr hi hd
    rw [readByte_unwritten hread] at hreply
    exact hreply
  · rw [Nat.add_assoc]
    exact exec_draws_of_success h ht

/-- What changes the RAM in a step: an accepted host write to the window, and it writes its one byte
(20_memory.md R60, R63). -/
theorem StepResult.ram_changed {s t : State} (h : StepResult s t) (hne : t.ram ≠ s.ram) :
    ∃ (i : Nat) (a : Addr) (w : Word) (rest : List Input),
      s.inputs = .write a w :: rest ∧ s.rstN = true ∧ s.busy = false ∧ decodeAddr s.bufDepth a = .window i ∧
      t.ram = (writeWindow i w s).ram := by
  cases h with
  | quiet => exact absurd rfl hne
  | waits => exact absurd rfl hne
  | completes ins t _ _ _ he =>
    obtain ⟨_, _, hram⟩ := he.buffer_eq
    exact absurd hram hne
  | writesReg a r w ins => exact absurd (writeReg_result r w _).ram_eq.2 hne
  | writesWindow a i w ins hin hr hd =>
    rcases whenIdle_cases { s with inputs := ins } (writeWindow i w { s with inputs := ins }) with
      ⟨_, e⟩ | ⟨hb, e⟩ <;> rw [e] at hne ⊢
    · exact absurd rfl hne
    · exact ⟨i, a, w, ins, hin, hr, hb, hd, rfl⟩
  | samples level ins => exact absurd (sampleRst_ram level _).2 hne

/-- Settles O49: the one step that changes the RAM writes the byte its address names. -/
theorem ramChangesOnlyByWindowWrites : Obligations.RamChangesOnlyByWindowWrites := by
  intro s t hstep hne
  obtain ⟨i, a, w, rest, hin, hr, hb, hd, hram⟩ := (step_cases hstep).ram_changed hne
  exact ⟨i, a, w, rest, hin, hr, hb, decodeAddr_window_lt hd, hd, fun j => hram ▸ writeWindow_read? i j w s⟩

end Sys2Proof.Machine

/-! The results of the last command across a step: they change only by a completion or a reset (20_memory.md R75,
70_reset_and_hazards.md R273). -/

namespace Sys2Proof.Machine

open Claims

/-- The error registers, `valid` and the result registers (10_state.md R20). -/
structure ResultRegisters where
  errKind : BitVec 4
  errCause : BitVec 8
  errInfo : Word
  valid : Bool
  hdrRaw : Vector Byte 24
  hdrOffset : Word
  payOffset : Word
  payLen : Word
  checksum : Byte
  viewOffset : Word
  viewLen : Word
  tsRaw : Vector Byte 6
  tsOffset : Word
  tsOut : Vector Byte 6

/-- The result registers of a state. -/
def resultRegisters (s : State) : ResultRegisters where
  errKind := s.errKind
  errCause := s.errCause
  errInfo := s.errInfo
  valid := s.valid
  hdrRaw := s.hdrRaw
  hdrOffset := s.hdrOffset
  payOffset := s.payOffset
  payLen := s.payLen
  checksum := s.checksum
  viewOffset := s.viewOffset
  viewLen := s.viewLen
  tsRaw := s.tsRaw
  tsOffset := s.tsOffset
  tsOut := s.tsOut

/-- Of the register writes only a soft reset touches the results. -/
theorem RegWriteResult.resultRegisters_cases {r : Reg} {w : Word} {s t : State} (h : RegWriteResult r w s t) :
    resultRegisters t = resultRegisters s ∨ (r = .ctrl ∧ w[1] = true) := by
  cases h with
  | softReset hr hw => exact .inr ⟨hr, hw⟩
  | _ => exact .inl rfl

/-- A step leaves the results, resets the machine, or completes the command in flight. -/
theorem StepResult.resultRegisters_cases {s t : State} (h : StepResult s t) :
    resultRegisters t = resultRegisters s ∨ resetStep s ∨ Claims.completes s t := by
  cases h with
  | quiet => exact .inl rfl
  | waits => exact .inl rfl
  | completes ins t hr hb hin he =>
    have hturn : s.inputs = [] ∨ (∃ rest, s.inputs = .engine :: rest) ∨ (∃ rest, s.inputs = .clock :: rest) :=
      hin.imp_right (.imp (⟨ins, ·⟩) (⟨ins, ·⟩))
    exact .inr (.inr ⟨⟨hr, hb, hturn⟩, he.handshake⟩)
  | writesReg a r w ins hin hr hd =>
    rcases (writeReg_result r w { s with inputs := ins }).resultRegisters_cases with hsame | ⟨rfl, hw⟩
    · exact .inl hsame
    · obtain rfl : a = 0x000004#24 := BitVec.eq_of_toNat_eq (decodeAddr_reg hd)
      exact .inr (.inl (.inr ⟨w, ins, hin, hr, hw⟩))
  | writesWindow => exact .inl (whenIdle_keeps resultRegisters rfl rfl)
  | samples level ins hin =>
    cases level with
    | true => exact .inl rfl
    | false => exact .inr (.inl (.inl ⟨ins, hin⟩))

/-- Settles O51: a step that is no reset and leaves the command in flight, or could not complete one, leaves the
results. -/
theorem resultsHoldUntilCompletion : Obligations.ResultsHoldUntilCompletion := by
  intro s t hstep hpending hnoreset
  rcases (step_cases hstep).resultRegisters_cases with hsame | hreset | ⟨hturn, hidle, _⟩
  · exact ResultRegisters.mk.inj hsame
  · exact absurd hreset hnoreset
  · rcases hpending with hbusy | hnoturn
    · exact absurd (hidle.symm.trans hbusy) Bool.false_ne_true
    · exact absurd hturn hnoturn

end Sys2Proof.Machine

/-! A command in flight does not see the host's accesses (40_command_engine.md R123): what they can change, no command
reads. -/

namespace Sys2Proof.Machine

open Claims

/-- What a host access can change while a command is in flight: the interrupt enable, the two `STATUS` bits that a write
clears or a dropped write sets, and the reply. -/
structure HostSide where
  irqEn : Bool
  done : Bool
  wrBusy : Bool
  bus : BusReply

/-- A state with the host's side of it replaced. -/
def State.withHostSide (s : State) (h : HostSide) : State :=
  { s with irqEn := h.irqEn, done := h.done, wrBusy := h.wrBusy, bus := h.bus }

/-- A verdict with the host's side of the updated state replaced. -/
def Verdict.withHostSide (h : HostSide) : Verdict → Verdict
  | .success u => .success (u.withHostSide h)
  | .fail c info => .fail c info

section verdicts

variable (s : State) (h : HostSide)

@[simp] theorem withHostSide_hdrRaw : (s.withHostSide h).hdrRaw = s.hdrRaw := rfl

theorem viewVerdict_withHostSide : viewVerdict (s.withHostSide h) = (viewVerdict s).withHostSide h := by
  unfold viewVerdict
  rw [apply_ite (Verdict.withHostSide h)]
  rfl

theorem hdrParseVerdict_withHostSide : hdrParseVerdict (s.withHostSide h) = (hdrParseVerdict s).withHostSide h := by
  unfold hdrParseVerdict
  rw [apply_ite (Verdict.withHostSide h)]
  rfl

theorem pktParseVerdict_withHostSide : pktParseVerdict (s.withHostSide h) = (pktParseVerdict s).withHostSide h := by
  unfold pktParseVerdict
  simp only [apply_ite (Verdict.withHostSide h)]
  rfl

theorem tsDecodeVerdict_withHostSide : tsDecodeVerdict (s.withHostSide h) = (tsDecodeVerdict s).withHostSide h := by
  unfold tsDecodeVerdict
  rw [apply_ite (Verdict.withHostSide h)]
  rfl

theorem checkVerdict_withHostSide : checkVerdict (s.withHostSide h) = (checkVerdict s).withHostSide h := by
  unfold checkVerdict
  rw [withHostSide_hdrRaw]
  rcases headerCheck s.hdrRaw with _ | ⟨c, info⟩ <;> rfl

theorem hdrValidateVerdict_withHostSide :
    hdrValidateVerdict (s.withHostSide h) = (hdrValidateVerdict s).withHostSide h := by
  unfold hdrValidateVerdict
  rw [apply_ite (Verdict.withHostSide h), ← checkVerdict_withHostSide]
  rfl

theorem pktValidateVerdict_withHostSide :
    pktValidateVerdict (s.withHostSide h) = (pktValidateVerdict s).withHostSide h := by
  unfold pktValidateVerdict
  rw [apply_ite (Verdict.withHostSide h), ← checkVerdict_withHostSide]
  rfl

end verdicts

/-- Neither commit reads the host's side, and both set `done`. -/
theorem commit_congr_hostSide {i : Instr} {v v' : Verdict} {s t : State} {h : HostSide} (hv : v' = v.withHostSide h)
    (hc : commit i v s = .next t) :
    commit i v' (s.withHostSide h) = .next (t.withHostSide { h with done := true }) := by
  rcases commit_cases hc with ⟨u, rfl, rfl⟩ | ⟨c, info, rfl, rfl⟩ <;> subst hv <;> rfl

/-- What the pseudocode of each command answers (40_command_engine.md R124). -/
def verdictOf (i : Instr) (s : State) : Verdict :=
  match i with
  | .nop => nopVerdict s
  | .view => viewVerdict s
  | .hdrParse => hdrParseVerdict s
  | .hdrValidate => hdrValidateVerdict s
  | .pktParse => pktParseVerdict s
  | .pktValidate => pktValidateVerdict s
  | .tsDecode => tsDecodeVerdict s
  | .tsEncode => tsEncodeVerdict s
  | .reservedOpcode _ => illegalVerdict .reservedOpcode s
  | .reservedBits _ _ => illegalVerdict .reservedBits s

/-- A command's completion commits its verdict. -/
theorem exec_eq_commit (i : Instr) (s : State) : exec i s = commit i (verdictOf i s) s := by cases i <;> rfl

/-- No command's verdict depends on the host's side. -/
theorem verdictOf_withHostSide (i : Instr) (s : State) (h : HostSide) :
    verdictOf i (s.withHostSide h) = (verdictOf i s).withHostSide h := by
  cases i with
  | nop | tsEncode | reservedOpcode | reservedBits => rfl
  | view => exact viewVerdict_withHostSide s h
  | hdrParse => exact hdrParseVerdict_withHostSide s h
  | hdrValidate => exact hdrValidateVerdict_withHostSide s h
  | pktParse => exact pktParseVerdict_withHostSide s h
  | pktValidate => exact pktValidateVerdict_withHostSide s h
  | tsDecode => exact tsDecodeVerdict_withHostSide s h

/-- A command completes with any host's side as with its own. -/
theorem exec_withHostSide {i : Instr} {s t : State} (h : HostSide) (hx : exec i s = .next t) :
    exec i (s.withHostSide h) = .next (t.withHostSide { h with done := true }) := by
  rw [exec_eq_commit] at hx ⊢
  exact commit_congr_hostSide (verdictOf_withHostSide i s h) hx

theorem exec_next (i : Instr) (s : State) : ∃ t, exec i s = .next t := by
  rw [exec_eq_commit]
  exact commit_next _ _ s

/-- The host's side is no result of a command. -/
theorem sameResults_withHostSide (s : State) (h : HostSide) : sameResults s (s.withHostSide h) :=
  ⟨rfl, rfl, rfl, rfl, rfl, rfl, rfl, rfl, rfl, rfl, rfl, rfl, rfl, rfl, rfl, rfl, rfl, rfl⟩

/-- Completing after a change of the host's side shows the same results as completing at once. -/
theorem complete_withHostSide (s : State) (h : HostSide) :
    ∃ t u, complete s = .next t ∧ complete (s.withHostSide h) = .next u ∧ sameResults t u := by
  obtain ⟨t, ht⟩ := exec_next (decode s.cmd) s
  exact ⟨t, t.withHostSide { h with done := true }, ht, exec_withHostSide h ht, sameResults_withHostSide t _⟩

/-- In flight, a register write other than a soft reset changes nothing but the host's side. -/
theorem RegWriteResult.hostSide_of_busy {r : Reg} {w : Word} {s t : State} (h : RegWriteResult r w s t)
    (hb : s.busy = true) (hw : ¬(r = .ctrl ∧ w[1] = true)) : ∃ hs, t = s.withHostSide hs := by
  cases h with
  | ignored => exact ⟨⟨s.irqEn, s.done, s.wrBusy, s.bus⟩, rfl⟩
  | softReset hr h1 => exact absurd ⟨hr, h1⟩ hw
  | setsIrqEn => exact ⟨⟨w[0], s.done, s.wrBusy, s.bus⟩, rfl⟩
  | clearsStatus => exact ⟨⟨s.irqEn, s.done && !w[1], s.wrBusy && !w[9], s.bus⟩, rfl⟩
  | dropped => exact ⟨⟨s.irqEn, s.done, true, s.bus⟩, rfl⟩
  | issues _ hidle | setsBufLen _ hidle | setsArgOffset _ hidle | setsArgLength _ hidle | setsEncDate _ hidle
  | setsEncTime _ hidle => exact absurd (hb.symm.trans hidle) Bool.false_ne_true.symm

/-- In flight, a host write other than a soft reset changes nothing but the host's side (40_command_engine.md R123). -/
theorem busWrite_hostSide_of_busy {a : Addr} {w : Word} {s : State} (hb : s.busy = true)
    (hw : ¬(a = 0x000004#24 ∧ w[1] = true)) : ∃ h, busWrite a w s = s.withHostSide h := by
  rcases busWrite_cases a w s with ⟨_, e⟩ | ⟨_, _, e⟩ | ⟨r, _, hd, e⟩ | ⟨i, _, _, e⟩ <;> rw [e]
  · exact ⟨⟨s.irqEn, s.done, s.wrBusy, .wrote .error⟩, rfl⟩
  · exact ⟨⟨s.irqEn, s.done, s.wrBusy, .wrote .error⟩, rfl⟩
  · have hnoreset : ¬(r = .ctrl ∧ w[1] = true) := by
      rintro ⟨rfl, h1⟩
      exact hw ⟨BitVec.eq_of_toNat_eq (decodeAddr_reg hd), h1⟩
    obtain ⟨h, e⟩ := (writeReg_result r w s).hostSide_of_busy hb hnoreset
    rw [e]
    exact ⟨{ h with bus := .wrote .okay }, rfl⟩
  · rw [whenIdle_busy hb]
    exact ⟨⟨s.irqEn, s.done, true, .wrote .okay⟩, rfl⟩

/-- A host read that draws no byte changes nothing but the reply. -/
theorem busRead_hostSide {a : Addr} {s : State}
    (hread : ∀ i, i < s.bufDepth → a.toNat = 0x010000 + 4 * i → ∃ b, s.ram.read? i = some b) :
    ∃ h, busRead a s = s.withHostSide h := by
  have hreply (b : BusReply) : ∃ h, reply b s = s.withHostSide h := ⟨⟨s.irqEn, s.done, s.wrBusy, b⟩, rfl⟩
  rcases busRead_cases a s with ⟨_, e⟩ | ⟨_, _, e⟩ | ⟨r, _, _, e⟩ | ⟨i, _, hd, e⟩ <;> rw [e]
  · exact hreply _
  · exact hreply _
  · exact hreply _
  · obtain ⟨b, hb⟩ := hread i (decodeAddr_window_lt hd) (decodeAddr_window hd)
    rw [readByte_written hb]
    exact hreply _

/-- Settles O30: such an access changes only the host's side, which no command reads. -/
theorem hostAccessesDoNotChangeResults : Obligations.HostAccessesDoNotChangeResults := by
  refine fun s a _ hb => ⟨fun w hw => ?_, fun hread => ?_⟩
  · obtain ⟨h, e⟩ := busWrite_hostSide_of_busy hb hw
    rw [e]
    exact complete_withHostSide s h
  · obtain ⟨h, e⟩ := busRead_hostSide hread
    rw [e]
    exact complete_withHostSide s h

end Sys2Proof.Machine

/-! The decoder by the number of the word, and the fields an encoded word gives back (30_encoding.md R90 to R94). -/

namespace Sys2Proof.Machine

/-- The legal commands in the order of their opcodes (30_encoding.md R92). -/
def legalCommands : List Instr :=
  [.nop, .view, .hdrParse, .hdrValidate, .pktParse, .pktValidate, .tsDecode, .tsEncode]

theorem opcodeField_eq (w : Word) : opcodeField w = BitVec.ofNat 8 w.toNat := by
  rw [opcodeField, extractLsb'_eq_ofNat_div, pow_zero, Nat.div_one]

theorem rsvField_eq (w : Word) : rsvField w = BitVec.ofNat 24 (w.toNat / 256) := extractLsb'_eq_ofNat_div 8 24 w

/-- `RSV` is 0 just in the words of one byte. -/
theorem rsvField_eq_zero_iff (w : Word) : rsvField w = 0#24 ↔ w.toNat < 256 := by
  have hw := w.isLt
  rw [rsvField_eq, ← BitVec.toNat_inj, BitVec.toNat_ofNat, BitVec.toNat_ofNat]
  omega

/-- The two fields are the whole word. -/
theorem rsvField_append_opcodeField (w : Word) : rsvField w ++ opcodeField w = w := by
  have hw := w.isLt
  apply BitVec.eq_of_toNat_eq
  rw [append_toNat, rsvField_eq, opcodeField_eq, BitVec.toNat_ofNat, BitVec.toNat_ofNat]
  omega

theorem zero_append_opcodeField {w : Word} (h : w.toNat ≤ 255) : 0#24 ++ opcodeField w = w := by
  have hrsv : rsvField w = 0#24 := (rsvField_eq_zero_iff w).2 (by omega)
  rw [← hrsv, rsvField_append_opcodeField]

theorem opcodeField_toNat {w : Word} (h : w.toNat ≤ 255) : (opcodeField w).toNat = w.toNat := by
  rw [opcodeField_eq, BitVec.toNat_ofNat]
  omega

/-- The opcodes from 8 on are reserved: they are none of the eight that the map names. -/
theorem decodeOpcode_reserved {op : Byte} (h : 8 ≤ op.toNat) : decodeOpcode op = .reservedOpcode op := by
  have hne (k : Nat) (hk : k < 8) : op ≠ BitVec.ofNat 8 k := by
    rintro rfl
    rw [BitVec.toNat_ofNat] at h
    omega
  simp [decodeOpcode, hne 0, hne 1, hne 2, hne 3, hne 4, hne 5, hne 6, hne 7]

/-- A word that is put together from its fields is decoded by them. -/
theorem decode_append (rsv : BitVec 24) (op : Byte) :
    decode (rsv ++ op) = if rsv ≠ 0#24 then .reservedBits rsv op else decodeOpcode op := by
  obtain ⟨hop, hrsv⟩ := Laws.EncodedFields.append_fields rsv op
  rw [decode, hop, hrsv]

theorem decode_reservedBits {w : Word} (h : 256 ≤ w.toNat) : decode w = .reservedBits (rsvField w) (opcodeField w) :=
  if_pos (mt (rsvField_eq_zero_iff w).1 (not_lt.2 h))

theorem decode_reservedOpcode {w : Word} (hlo : 8 ≤ w.toNat) (hhi : w.toNat ≤ 255) :
    decode w = .reservedOpcode (opcodeField w) := by
  have hrsv : rsvField w = 0#24 := (rsvField_eq_zero_iff w).2 (by omega)
  rw [decode, if_neg (not_not.2 hrsv), decodeOpcode_reserved (by rwa [opcodeField_toNat hhi])]

theorem eq_ofNat_of_le_seven {w : Word} (h : w.toNat ≤ 7) : ∃ k : Fin 8, w = BitVec.ofNat 32 k :=
  ⟨⟨w.toNat, by omega⟩, by simp⟩

theorem decode_legal : ∀ k : Fin 8, decode (BitVec.ofNat 32 k) = legalCommands[k] := by decide

theorem encode_legal : ∀ k : Fin 8, encode legalCommands[k] = BitVec.ofNat 32 k := by decide

theorem wellFormed_legal : ∀ k : Fin 8, legalCommands[k].wellFormed = true := by decide

/-- No legal command is one of the two illegal words of 30_encoding.md R93. -/
theorem legalCommands_ne_illegal {i : Instr} (h : i ∈ legalCommands) :
    (∀ rsv op, i ≠ .reservedBits rsv op) ∧ ∀ op, i ≠ .reservedOpcode op := by
  cases i with
  | reservedOpcode | reservedBits => simp [legalCommands] at h
  | _ => exact ⟨nofun, nofun⟩

/-- What a word decodes to, by its number (30_encoding.md R94). -/
theorem decode_cases (w : Word) :
    (256 ≤ w.toNat ∧ decode w = .reservedBits (rsvField w) (opcodeField w)) ∨
    (8 ≤ w.toNat ∧ w.toNat ≤ 255 ∧ decode w = .reservedOpcode (opcodeField w)) ∨
    (∃ k : Fin 8, w = BitVec.ofNat 32 k ∧ decode w = legalCommands[k]) := by
  obtain hbits | ⟨hlo, hhi⟩ | hlegal : 256 ≤ w.toNat ∨ (8 ≤ w.toNat ∧ w.toNat ≤ 255) ∨ w.toNat ≤ 7 := by omega
  · exact .inl ⟨hbits, decode_reservedBits hbits⟩
  · exact .inr (.inl ⟨hlo, hhi, decode_reservedOpcode hlo hhi⟩)
  · obtain ⟨k, rfl⟩ := eq_ofNat_of_le_seven hlegal
    exact .inr (.inr ⟨k, rfl, decode_legal k⟩)

/-- Settles O1: the legal words by the table, the illegal ones by the fields of their word. -/
theorem decodeEncodeRoundTrip : Obligations.DecodeEncodeRoundTrip := by
  intro i hwf
  cases i with
  | reservedOpcode op =>
    have hop : 8 ≤ op.toNat := of_decide_eq_true hwf
    rw [encode, decode_append, if_neg (not_not.2 rfl), decodeOpcode_reserved hop]
  | reservedBits rsv op =>
    have hrsv : rsv ≠ 0#24 := of_decide_eq_true hwf
    rw [encode, decode_append, if_pos hrsv]
  | _ => rfl

/-- Settles O2, by the three ranges of words. -/
theorem encodeDecodeRoundTrip : Obligations.EncodeDecodeRoundTrip := by
  intro w
  rcases decode_cases w with ⟨hw, e⟩ | ⟨hlo, hhi, e⟩ | ⟨k, hw, e⟩ <;> rw [e]
  · have hrsv : rsvField w ≠ 0#24 := mt (rsvField_eq_zero_iff w).1 (not_lt.2 hw)
    exact ⟨decide_eq_true hrsv, rsvField_append_opcodeField w⟩
  · have hop : 8 ≤ (opcodeField w).toNat := by rwa [opcodeField_toNat hhi]
    exact ⟨decide_eq_true hop, zero_append_opcodeField hhi⟩
  · exact ⟨wellFormed_legal k, (encode_legal k).trans hw.symm⟩

/-- Settles O3: each range by its own lemma, the fields by their numbers. -/
theorem decodeFollowsTheOpcodeMap : Obligations.DecodeFollowsTheOpcodeMap := by
  refine fun w => ⟨fun h => ?_, fun h => ?_, fun hlo hhi => ?_⟩
  · rw [decode_reservedBits h, rsvField_eq, opcodeField_eq]
  · obtain ⟨k, rfl⟩ := eq_ofNat_of_le_seven h
    have hk : (BitVec.ofNat 32 k.val).toNat = k.val := Nat.mod_eq_of_lt (by omega)
    rw [decode_legal, hk]
    exact List.getElem?_eq_getElem k.isLt
  · rw [decode_reservedOpcode hlo hhi, opcodeField_eq]

/-- Settles O4: eight rows of the opcode map, and two words of each illegal range. -/
theorem sampleCommandWordsDecode : Obligations.SampleCommandWordsDecode :=
  ⟨decode_legal 0, decode_legal 1, decode_legal 2, decode_legal 3, decode_legal 4, decode_legal 5, decode_legal 6,
    decode_legal 7, decode_reservedOpcode (by decide) (by decide), decode_reservedOpcode (by decide) (by decide),
    decode_reservedBits (by decide), decode_reservedBits (by decide)⟩

end Sys2Proof.Machine

/-! The illegal command words (30_encoding.md R93, 40_command_engine.md R126). -/

namespace Sys2Proof.Machine

open Claims

/-- A failure of a command that no loaded flag belongs to leaves every loaded flag. -/
theorem commitFailure_eq_failed {i : Instr} (c : Cause) (info : Word) (s : State) (hview : failClearsView i = false)
    (hhdr : failClearsHeader i = false) (hts : failClearsTs i = false) :
    commitFailure i c info s = failed c.kind.code c.code info s := by
  simp [commitFailure, failed, hview, hhdr, hts]

theorem exec_reservedBits (rsv : BitVec 24) (op : Byte) (s : State) :
    exec (.reservedBits rsv op) s = .next (failed 4 0x01 s.cmd s) :=
  congrArg _ (commitFailure_eq_failed (i := .reservedBits rsv op) .reservedBits s.cmd s rfl rfl rfl)

theorem exec_reservedOpcode (op : Byte) (s : State) :
    exec (.reservedOpcode op) s = .next (failed 4 0x02 s.cmd s) :=
  congrArg _ (commitFailure_eq_failed (i := .reservedOpcode op) .reservedOpcode s.cmd s rfl rfl rfl)

/-- The words 0 to 7 are the legal commands. -/
theorem le_seven_iff_decode_legal (w : Word) :
    w.toNat ≤ 7 ↔ (∀ rsv op, decode w ≠ .reservedBits rsv op) ∧ ∀ op, decode w ≠ .reservedOpcode op := by
  constructor
  · intro h
    obtain ⟨k, rfl⟩ := eq_ofNat_of_le_seven h
    rw [decode_legal]
    exact legalCommands_ne_illegal (List.getElem_mem k.isLt)
  · rintro ⟨hbits, hop⟩
    by_contra h
    rcases lt_or_ge w.toNat 256 with hw | hw
    · exact hop _ (decode_reservedOpcode (by omega) (by omega))
    · exact hbits _ _ (decode_reservedBits hw)

/-- Settles O15: a word of either illegal range decodes to its illegal instruction, whose failure clears no flag. -/
theorem illegalWordsComplete : Obligations.IllegalWordsComplete := by
  refine ⟨fun s rsv op => exec_reservedBits rsv op s, fun s op => exec_reservedOpcode op s, fun s h => ?_,
    fun s hlo hhi => ?_, le_seven_iff_decode_legal⟩
  · rw [complete, decode_reservedBits h, exec_reservedBits]
  · rw [complete, decode_reservedOpcode hlo hhi, exec_reservedOpcode]

end Sys2Proof.Machine

/-! The enumeration codes as numbers (30_encoding.md R105 to R107). -/

namespace Sys2Proof.Machine

theorem cmdEnum_toNat (b : Byte) :
    (cmdEnum b).toNat = if 1 ≤ b.toNat ∧ b.toNat ≤ 6 then b.toNat else 7 := by
  simp only [cmdEnum, apply_ite BitVec.toNat, BitVec.toNat_eq, BitVec.ofNat_eq_ofNat, BitVec.toNat_ofNat]
  split_ifs <;> omega

theorem rspEnum_toNat (b : Byte) :
    (rspEnum b).toNat = if 1 ≤ b.toNat ∧ b.toNat ≤ 3 then b.toNat else if b.toNat = 0xFE then 4 else 7 := by
  simp only [rspEnum, apply_ite BitVec.toNat, BitVec.toNat_eq, BitVec.ofNat_eq_ofNat, BitVec.toNat_ofNat]
  split_ifs <;> omega

theorem encEnum_toNat (b : Byte) :
    (encEnum b).toNat = if b.toNat ≤ 2 then b.toNat else if b.toNat = 0xFE then 3 else 7 := by
  simp only [encEnum, apply_ite BitVec.toNat, BitVec.toNat_eq, BitVec.ofNat_eq_ofNat, BitVec.toNat_ofNat]
  split_ifs <;> omega

/-- Settles O40, by the number of each code. -/
theorem enumerationCodes : Obligations.EnumerationCodes := by
  intro b
  have hcmd := cmdEnum_toNat b
  have hrsp := rspEnum_toNat b
  have henc := encEnum_toNat b
  refine ⟨fun h => ?_, fun h => BitVec.eq_of_toNat_eq ?_, fun h => ?_, fun h => BitVec.eq_of_toNat_eq ?_,
    fun h => BitVec.eq_of_toNat_eq ?_, fun h => ?_, fun h => BitVec.eq_of_toNat_eq ?_,
    fun h => BitVec.eq_of_toNat_eq ?_⟩
  · exact hcmd.trans (if_pos h)
  · exact hcmd.trans (if_neg (by omega))
  · exact hrsp.trans (if_pos h)
  · exact hrsp.trans ((if_neg (by omega)).trans (if_pos h))
  · exact hrsp.trans ((if_neg (by omega)).trans (if_neg (by omega)))
  · exact henc.trans (if_pos h)
  · exact henc.trans ((if_neg (by omega)).trans (if_pos h))
  · exact henc.trans ((if_neg (by omega)).trans (if_neg (by omega)))

end Sys2Proof.Machine

/-! A step of the machine by its next input, and the engine's turn with a command in flight
(40_command_engine.md R122, R124). -/

namespace Sys2Proof.Machine

theorem step_of_inputs_nil {s : State} (h : s.inputs = []) : step s = engineTurn s := by
  simp [step, stepState, h]

theorem step_of_inputs_cons {s : State} {i : Input} {rest : List Input} (h : s.inputs = i :: rest) :
    step s = takeInput i { s with inputs := rest } := by
  simp [step, stepState, h]

/-- The engine's turn runs the command in flight. -/
theorem engineTurn_inFlight {s : State} (hr : s.rstN = true) (hb : s.busy = true) :
    engineTurn s = exec (decode s.cmd) s := by
  simp [engineTurn, engineEnabled, complete, hr, hb]

/-- A scheduled turn of the engine runs the command in flight. -/
theorem step_engine {s : State} {rest : List Input} (hr : s.rstN = true) (hb : s.busy = true)
    (hin : s.inputs = .engine :: rest) : step s = exec (decode s.cmd) { s with inputs := rest } := by
  rw [step_of_inputs_cons hin]
  exact engineTurn_inFlight (s := { s with inputs := rest }) hr hb

/-- Settles O5: both forms of the engine's turn run the decoded word. -/
theorem stepRunsTheCommandInFlight : Obligations.StepRunsTheCommandInFlight := by
  rintro s _ hr hb rfl _
  exact ⟨fun rest hin => step_engine hr hb hin,
    fun hin => (step_of_inputs_nil hin).trans (engineTurn_inFlight hr hb)⟩

/-- An idle write to `CMD` issues the word (40_command_engine.md R120). -/
theorem busWrite_cmd_idle (w : Word) {s : State} (hr : s.rstN = true) (hb : s.busy = false) :
    busWrite 0x00000C#24 w s = reply (.wrote .okay) (issue w s) :=
  busWrite_idle (r := .cmd) hr hb rfl

/-- Settles O27: what issue and the reply set, written out. -/
theorem commandWriteIssues : Obligations.CommandWriteIssues := fun _ w hr hb => busWrite_cmd_idle w hr hb

theorem withFetchWord_eq {n : Nat} (hn : n < 2 ^ 32) (s : State) :
    s.withFetchWord 32 n = placeCommand (BitVec.ofNat 32 n) s := by
  rw [State.withFetchWord, Nat.mod_eq_of_lt hn]

/-- A run goes on from the next state of its first step. -/
theorem run_succ_of_step {M : Host.Core} {s t : M.State} (n : Nat) (h : M.step s = .next t) :
    M.run (n + 1) s = M.run n t := by
  rw [Host.Core.run, h]

/-- A run of one step is that step. -/
theorem run_one (M : Host.Core) (s : M.State) : M.run 1 s = M.step s := by
  rw [Host.Core.run]
  cases M.step s <;> rfl

/-- Settles O6: a placed word has its turn scheduled next; a written one is issued by the first step and has its turn
in the second. -/
theorem placedCommandRunsNext : Obligations.PlacedCommandRunsNext := by
  refine ⟨fun s n hn => ?_, fun s w rest hr hb hin => ?_⟩
  · rw [withFetchWord_eq hn]
    exact step_engine (s := placeCommand (BitVec.ofNat 32 n) s) rfl rfl rfl
  · have hissue : step s = .next (reply (.wrote .okay) (issue w { s with inputs := .engine :: rest })) := by
      rw [step_of_inputs_cons hin]
      exact congrArg Host.Outcome.next (busWrite_cmd_idle w (s := { s with inputs := .engine :: rest }) hr hb)
    have hturn := step_engine (s := reply (.wrote .okay) (issue w { s with inputs := .engine :: rest })) hr rfl rfl
    exact (run_succ_of_step (M := core) 1 hissue).trans ((run_one core _).trans hturn)

end Sys2Proof.Machine

/-! The two commits of a completion: what a success clears, and what a failure leaves (40_command_engine.md R125,
R126, R131; 60_exceptions.md R232). -/

namespace Sys2Proof.Machine

theorem not_failClearsView (i : Instr) : (!failClearsView i) = decide (i ≠ .view) := by
  simp [← failClearsView_iff]

theorem not_failClearsHeader (i : Instr) : (!failClearsHeader i) = decide (i ≠ .hdrParse ∧ i ≠ .pktParse) := by
  simp [← not_or, ← failClearsHeader_iff]

theorem not_failClearsTs (i : Instr) : (!failClearsTs i) = decide (i ≠ .tsDecode) := by
  simp [← failClearsTs_iff]

theorem successSetsValid_eq (i : Instr) : successSetsValid i = decide (i = .hdrValidate ∨ i = .pktValidate) := by
  simp [← successSetsValid_iff]

/-- A completion that records an error is a failure's commit. -/
theorem ExecResult.failure_of_errKind_ne {i : Instr} {s t : State} (h : ExecResult i s t) (ht : t.errKind ≠ 0) :
    ∃ c info, t = commitFailure i c info s := by
  rcases h.commit_cases with ⟨u, rfl⟩ | hfail
  · exact absurd rfl ht
  · exact hfail

/-- A completion that records no error is a success's commit. -/
theorem ExecResult.success_of_errKind_eq {i : Instr} {s t : State} (h : ExecResult i s t) (ht : t.errKind = 0) :
    ∃ u, t = commitSuccess i u := by
  rcases h.commit_cases with hsucc | ⟨c, info, rfl⟩
  · exact hsucc
  · exact absurd ht (cause_kind_code_ne_zero c)

/-- The error registers that a completion leaves. -/
theorem ExecResult.errorPairLegal {i : Instr} {s t : State} (h : ExecResult i s t) : errorPairLegal t := by
  rcases h.commit_cases with ⟨u, rfl⟩ | ⟨c, info, rfl⟩
  · exact .inl ⟨rfl, rfl, rfl⟩
  · exact .inr (cause_pair_listed c)

/-- `INVALID_TIME` stands in no pair of R232 (44_timestamp.md R202). -/
theorem errKind_ne_three {s : State} (h : errorPairLegal s) : s.errKind ≠ 3 := by
  rcases h with ⟨hkind, _, _⟩ | hpair
  · rw [hkind]
    decide
  · have hkinds : ∀ p ∈ errorPairs, p.1 ≠ 3 := by simp [errorPairs]
    exact hkinds _ hpair

/-- Settles O22: every completion answers, and ends in one of the two commits. -/
theorem everyCommandCompletes : Obligations.EveryCommandCompletes := by
  intro i s
  obtain ⟨t, ht⟩ := exec_next i s
  have h := exec_cases ht
  obtain ⟨hbusy, hdone⟩ := h.handshake
  exact ⟨t, ht, hbusy, hdone, h.errorPairLegal, errKind_ne_three h.errorPairLegal⟩

/-- Settles O24: the flags that a failure's commit clears are those of R126. -/
theorem failureWritesNoResult : Obligations.FailureWritesNoResult := by
  intro i s t hx ht
  obtain ⟨c, info, rfl⟩ := (exec_cases hx).failure_of_errKind_ne ht
  rw [← not_failClearsView, ← not_failClearsHeader, ← not_failClearsTs]
  rfl

/-- Settles O25: a success's commit sets just these fields, whatever the command updated. -/
theorem successCommitsCleanErrors : Obligations.SuccessCommitsCleanErrors := by
  intro i s t hx ht
  obtain ⟨u, rfl⟩ := (exec_cases hx).success_of_errKind_eq ht
  rw [← successSetsValid_eq]
  rfl

/-- Settles O7: `NOP` commits a success that updates nothing. -/
theorem nopCompletes : Obligations.NopCompletes :=
  ⟨rfl, fun _ => rfl, commitSuccess .nop (issue 0x00000000#32 State.reset), rfl, by decide⟩

end Sys2Proof.Machine

/-! The frame of a completion (40_command_engine.md R127): each result group has its own commands. -/

namespace Sys2Proof.Machine

/-- Two states agree on everything that no command writes: the frame RAM, the operands, the host's own bits, the pin,
the reply, the schedule and the count of waited cycles. -/
def SameOutsideResults (s t : State) : Prop :=
  t.bufDepth = s.bufDepth ∧ t.irqEn = s.irqEn ∧ t.wrBusy = s.wrBusy ∧ t.cmd = s.cmd ∧ t.bufLen = s.bufLen ∧
  t.argOffset = s.argOffset ∧ t.argLength = s.argLength ∧ t.encYear = s.encYear ∧ t.encMonth = s.encMonth ∧
  t.encDay = s.encDay ∧ t.encHour = s.encHour ∧ t.encMinute = s.encMinute ∧ t.encSecond = s.encSecond ∧
  t.rstN = s.rstN ∧ t.bus = s.bus ∧ t.inputs = s.inputs ∧ t.waited = s.waited

section frame

variable {i : Instr} {s t : State}

theorem ExecResult.sameOutsideResults (h : ExecResult i s t) : SameOutsideResults s t := by
  cases h <;> exact ⟨rfl, rfl, rfl, rfl, rfl, rfl, rfl, rfl, rfl, rfl, rfl, rfl, rfl, rfl, rfl, rfl, rfl⟩

/-- Only the two parses latch a header, and only they touch its flag and the packet's. -/
theorem ExecResult.headerGroup_eq (h : ExecResult i s t) (hhdr : i ≠ .hdrParse) (hpkt : i ≠ .pktParse) :
    t.hdrRaw = s.hdrRaw ∧ t.hdrOffset = s.hdrOffset ∧ t.hdrLoaded = s.hdrLoaded ∧ t.pktLoaded = s.pktLoaded := by
  have hflag : t.hdrLoaded = s.hdrLoaded := h.hdrLoaded_cases.resolve_right fun ⟨hown, _⟩ => hown.elim hhdr hpkt
  have hpktFlag : t.pktLoaded = s.pktLoaded :=
    h.pktLoaded_cases.resolve_right fun hown => hown.elim (fun ⟨hi, _⟩ => hhdr hi) (fun ⟨hi, _⟩ => hpkt hi)
  cases h with
  | hdrParsed hi => exact absurd hi hhdr
  | pktParsed hi => exact absurd hi hpkt
  | _ => exact ⟨rfl, rfl, hflag, hpktFlag⟩

theorem ExecResult.packetGroup_eq (h : ExecResult i s t) (hpkt : i ≠ .pktParse) :
    t.payOffset = s.payOffset ∧ t.payLen = s.payLen ∧ t.checksum = s.checksum := by
  cases h with
  | pktParsed hi => exact absurd hi hpkt
  | _ => exact ⟨rfl, rfl, rfl⟩

theorem ExecResult.viewGroup_eq (h : ExecResult i s t) (hview : i ≠ .view) :
    t.viewOffset = s.viewOffset ∧ t.viewLen = s.viewLen ∧ t.viewLoaded = s.viewLoaded := by
  have hflag : t.viewLoaded = s.viewLoaded := h.viewLoaded_cases.resolve_right fun ⟨hi, _⟩ => hview hi
  cases h with
  | view hi => exact absurd hi hview
  | _ => exact ⟨rfl, rfl, hflag⟩

theorem ExecResult.timestampGroup_eq (h : ExecResult i s t) (hts : i ≠ .tsDecode) :
    t.tsRaw = s.tsRaw ∧ t.tsOffset = s.tsOffset ∧ t.tsLoaded = s.tsLoaded := by
  have hflag : t.tsLoaded = s.tsLoaded := h.tsLoaded_cases.resolve_right fun ⟨hi, _⟩ => hts hi
  cases h with
  | tsDecoded hi => exact absurd hi hts
  | _ => exact ⟨rfl, rfl, hflag⟩

theorem ExecResult.tsOut_eq (h : ExecResult i s t) (henc : i ≠ .tsEncode) : t.tsOut = s.tsOut := by
  cases h with
  | tsEncoded hi => exact absurd hi henc
  | _ => rfl

/-- Only the commands that read the RAM draw free bytes (log 3). -/
theorem ExecResult.draws_unchanged (h : ExecResult i s t) (hhdr : i ≠ .hdrParse) (hpkt : i ≠ .pktParse)
    (hts : i ≠ .tsDecode) : t.draws = s.draws := by
  cases h with
  | hdrParsed hi => exact absurd hi hhdr
  | pktParsed hi => exact absurd hi hpkt
  | tsDecoded hi => exact absurd hi hts
  | _ => rfl

end frame

/-- Settles O26, group by group. -/
theorem commandsWriteOnlyTheirGroup : Obligations.CommandsWriteOnlyTheirGroup := by
  intro i s t hx
  have h := exec_cases hx
  obtain ⟨_, _, hram⟩ := h.buffer_eq
  exact ⟨⟨hram, fun a => congrArg (Memory.read? · a) hram, h.sameOutsideResults⟩, h.headerGroup_eq, h.packetGroup_eq,
    h.viewGroup_eq, h.timestampGroup_eq, h.tsOut_eq, h.draws_unchanged⟩

end Sys2Proof.Machine

/-! Accesses while a command is in flight, and the steps that leave it in flight (40_command_engine.md R123). -/

namespace Sys2Proof.Machine

/-- In flight a write to an `RW` register is dropped. -/
theorem writeReg_rw_busy {r : Reg} (w : Word) {s : State} (hb : s.busy = true) (hrw : r.access = .rw) :
    writeReg r w s = dropWrite s := by
  cases r with
  | cmd | bufLen | argOffset | argLength | encDate | encTime => exact whenIdle_busy hb _
  | _ => exact absurd hrw (by decide)

theorem busWrite_rw_busy {r : Reg} (w : Word) {s : State} (hr : s.rstN = true) (hb : s.busy = true)
    (hrw : r.access = .rw) : busWrite (regAddr r) w s = { s with wrBusy := true, bus := .wrote .okay } := by
  rw [busWrite_regAddr r w hr, writeReg_rw_busy w hb hrw]
  rfl

theorem writeCtrl_softReset {w : Word} (s : State) (hw : w[1] = true) : writeCtrl w s = resetElements s := if_pos hw

theorem writeCtrl_irqEn {w : Word} (s : State) (hw : w[1] = false) : writeCtrl w s = { s with irqEn := w[0] } :=
  if_neg (Bool.not_eq_true _ ▸ hw)

/-- A write to `CTRL` is accepted whether a command is in flight or not. -/
theorem busWrite_ctrl (w : Word) {s : State} (hr : s.rstN = true) :
    busWrite 0x000004#24 w s = reply (.wrote .okay) (writeCtrl w s) :=
  busWrite_regAddr .ctrl w hr

/-- Settles O28, by what each address names. -/
theorem writesWhileBusy : Obligations.WritesWhileBusy := by
  refine fun s w hr hb => ⟨?_, fun i hi hd => ?_, fun hw => ?_, fun hw => ?_, busWrite_regAddr .status w hr,
    fun r hro => ?_, fun r => ?_, fun i hi hd => ?_⟩
  · simp only [List.forall_mem_cons]
    exact ⟨busWrite_rw_busy (r := .cmd) w hr hb rfl, busWrite_rw_busy (r := .bufLen) w hr hb rfl,
      busWrite_rw_busy (r := .argOffset) w hr hb rfl, busWrite_rw_busy (r := .argLength) w hr hb rfl,
      busWrite_rw_busy (r := .encDate) w hr hb rfl, busWrite_rw_busy (r := .encTime) w hr hb rfl, nofun⟩
  · have hwrite := busWrite_windowAddr w hr hi hd
    rw [whenIdle_busy hb] at hwrite
    exact hwrite
  · rw [busWrite_ctrl w hr, writeCtrl_irqEn s hw]
    rfl
  · rw [busWrite_ctrl w hr, writeCtrl_softReset s hw]
    rfl
  · rw [busWrite_regAddr r w hr, writeReg_ro w s hro]
    rfl
  · exact ⟨_, congrArg State.bus (busRead_regAddr r hr)⟩
  · exact ⟨_, congrArg State.bus (busRead_windowAddr hr hi hd)⟩

/-- A step that leaves the command in flight changes only the host's side, the schedule, the pin and the counts of draws
and waited cycles. -/
theorem StepResult.hostSide_of_inFlight {s t : State} (h : StepResult s t) (hs : s.busy = true) (ht : t.busy = true) :
    ∃ (host : HostSide) (ins : List Input) (pin : Bool) (d n : Nat),
      t = { s.withHostSide host with inputs := ins, rstN := pin, draws := d, waited := n } := by
  cases h with
  | quiet ins b d => exact ⟨⟨s.irqEn, s.done, s.wrBusy, b⟩, ins, s.rstN, d, s.waited, rfl⟩
  | waits ins => exact ⟨⟨s.irqEn, s.done, s.wrBusy, s.bus⟩, ins, s.rstN, s.draws, s.waited + 1, rfl⟩
  | completes ins t _ _ _ he => exact absurd (he.handshake.1.symm.trans ht) Bool.false_ne_true
  | writesReg a r w ins =>
    have hnoreset : ¬(r = .ctrl ∧ w[1] = true) := by
      rintro ⟨rfl, hw⟩
      change (writeCtrl w _).busy = true at ht
      rw [writeCtrl_softReset _ hw] at ht
      exact Bool.false_ne_true ht
    obtain ⟨host, e⟩ := (writeReg_result r w { s with inputs := ins }).hostSide_of_busy hs hnoreset
    rw [e]
    exact ⟨{ host with bus := .wrote .okay }, ins, s.rstN, s.draws, s.waited, rfl⟩
  | writesWindow a i w ins =>
    rw [whenIdle_busy (s := { s with inputs := ins }) hs]
    exact ⟨⟨s.irqEn, s.done, true, .wrote .okay⟩, ins, s.rstN, s.draws, s.waited, rfl⟩
  | samples level ins =>
    cases level with
    | true => exact ⟨⟨s.irqEn, s.done, s.wrBusy, s.bus⟩, ins, true, s.draws, s.waited, rfl⟩
    | false => exact absurd ht Bool.false_ne_true

/-- Settles O29: no operand of a command is among the fields that such a step changes. -/
theorem inputsFixedInFlight : Obligations.InputsFixedInFlight := by
  intro s t _ hs hstep ht
  obtain ⟨host, ins, pin, d, n, rfl⟩ := (step_cases hstep).hostSide_of_inFlight hs ht
  exact ⟨rfl, rfl, rfl, rfl, rfl, rfl, rfl, rfl, rfl, rfl, rfl, rfl, rfl, rfl⟩

end Sys2Proof.Machine

/-! The handshake's flags across a step (40_command_engine.md R120, R125; 10_state.md R28). -/

namespace Sys2Proof.Machine

/-- A completion leaves no command in flight, and `valid` stands only after a success, which clears the errors. -/
theorem ExecResult.handshakeConsistent {i : Instr} {s t : State} (h : ExecResult i s t) : handshakeConsistent t := by
  rcases h.commit_cases with ⟨u, rfl⟩ | ⟨c, info, rfl⟩
  · exact ⟨nofun, fun _ => ⟨rfl, rfl, rfl⟩⟩
  · exact ⟨nofun, nofun⟩

theorem handshakeConsistent_resetElements (s : State) : handshakeConsistent (resetElements s) := ⟨nofun, nofun⟩

/-- An issue clears `done`, a write to `STATUS` can only clear it, and no write touches `valid` without the errors. -/
theorem RegWriteResult.keeps_handshakeConsistent {r : Reg} {w : Word} {s t : State} (h : RegWriteResult r w s t)
    (hs : handshakeConsistent s) : handshakeConsistent t := by
  obtain ⟨hdone, hvalid⟩ := hs
  cases h with
  | softReset => exact handshakeConsistent_resetElements s
  | clearsStatus => exact ⟨fun hb => Bool.and_eq_false_imp.2 fun h => absurd (hdone hb ▸ h) Bool.false_ne_true, hvalid⟩
  | issues => exact ⟨fun _ => rfl, hvalid⟩
  | _ => exact ⟨hdone, hvalid⟩

/-- Settles O55, by what each kind of step does to the five registers of the handshake. -/
theorem handshakeStaysConsistent : Obligations.HandshakeStaysConsistent := by
  intro s t hs hstep
  cases step_cases hstep with
  | quiet => exact hs
  | waits => exact hs
  | completes ins t _ _ _ he => exact he.handshakeConsistent
  | writesReg a r w ins => exact (writeReg_result r w { s with inputs := ins }).keeps_handshakeConsistent hs
  | writesWindow a i w ins =>
    rcases whenIdle_cases { s with inputs := ins } (writeWindow i w { s with inputs := ins }) with ⟨_, e⟩ | ⟨_, e⟩ <;>
      rw [e] <;> exact hs
  | samples level ins =>
    cases level with
    | true => exact hs
    | false => exact handshakeConsistent_resetElements { s with inputs := ins }

end Sys2Proof.Machine

/-! Live views inside the buffer (41_view.md R140, 43_packet.md R181), and the completion of `VIEW` (R141). -/

namespace Sys2Proof.Machine

open Claims

/-- What `liveViewsInBounds` says of a state is a matter of its live groups. -/
theorem liveViewsInBounds_congr {s t : State} (h : liveGroups t = liveGroups s) :
    liveViewsInBounds t ↔ liveViewsInBounds s := by
  simp only [liveGroups, LiveGroups.mk.injEq] at h
  simp only [liveViewsInBounds, h]

/-- A failure moves no view and raises no flag; it clears `hdr_loaded` only together with `pkt_loaded`. -/
theorem commitFailure_liveViewsInBounds (i : Instr) (c : Cause) (info : Word) {s : State} (hs : liveViewsInBounds s) :
    liveViewsInBounds (commitFailure i c info s) := by
  obtain ⟨hview, hhdr, hts, hpkt⟩ := hs
  refine ⟨fun h => hview (Bool.and_elim_left h), fun h => hhdr (Bool.and_elim_left h),
    fun h => hts (Bool.and_elim_left h), fun h => ?_⟩
  obtain ⟨hloaded, hpay⟩ := hpkt (Bool.and_elim_left h)
  exact ⟨Bool.and_eq_true_iff.2 ⟨hloaded, Bool.and_elim_right h⟩, hpay⟩

/-- The payload that a successful `PKT_PARSE` views starts after the header and ends one byte before the buffer's end,
and neither of its registers wraps (43_packet.md R180, R181). -/
theorem pktParsed_payload {s : State} (h : offsetArg s + 25 ≤ bufferLen s) :
    (pktParsed s).payOffset.toNat = (pktParsed s).hdrOffset.toNat + 24 ∧
      (pktParsed s).payOffset.toNat + (pktParsed s).payLen.toNat + 1 = (pktParsed s).bufLen.toNat := by
  have hlt : bufferLen s < 2 ^ 32 := s.bufLen.isLt
  have hoff : (pktParsed s).payOffset.toNat = offsetArg s + 24 :=
    (BitVec.toNat_ofNat _ _).trans (Nat.mod_eq_of_lt (by omega))
  have hlen : (pktParsed s).payLen.toNat = bufferLen s - offsetArg s - 25 :=
    (BitVec.toNat_ofNat _ _).trans (Nat.mod_eq_of_lt (by omega))
  refine ⟨hoff, ?_⟩
  rw [hoff, hlen]
  change _ = bufferLen s
  omega

/-- A completion sets a group's registers only under the bound that it checks first, and no command changes
`buf_len`. -/
theorem ExecResult.keeps_liveViewsInBounds {i : Instr} {s t : State} (h : ExecResult i s t)
    (hs : liveViewsInBounds s) : liveViewsInBounds t := by
  obtain ⟨hview, hhdr, hts, hpkt⟩ := hs
  cases h with
  | failure c info => exact commitFailure_liveViewsInBounds i c info ⟨hview, hhdr, hts, hpkt⟩
  | view _ hb => exact ⟨fun _ => hb, hhdr, hts, hpkt⟩
  | hdrParsed _ hb => exact ⟨hview, fun _ => hb, hts, nofun⟩
  | pktParsed _ hb => exact ⟨hview, fun _ => (Nat.le_succ _).trans hb, hts, fun _ => ⟨rfl, pktParsed_payload hb⟩⟩
  | tsDecoded _ hb => exact ⟨hview, hhdr, fun _ => hb, hpkt⟩
  | _ => exact ⟨hview, hhdr, hts, hpkt⟩

/-- Settles O56: a step keeps the groups, leaves none live, or completes a command, which checks the bounds of what it
loads. -/
theorem liveViewsStayInBounds : Obligations.LiveViewsStayInBounds := by
  intro s t hs hstep
  rcases (step_cases hstep).liveGroups_cases with e | ⟨hnone, _⟩ | ⟨_, ins, he⟩
  · exact (liveViewsInBounds_congr e).2 hs
  · exact liveViewsInBounds_of_unloaded hnone
  · exact he.keeps_liveViewsInBounds hs

/-- The minimum of 00_scope.md R9 is the sum itself until it exceeds 32 bits. -/
theorem sat32_eq_saturated (x : Nat) : sat32 x = saturated x := by
  unfold sat32 saturated
  split
  · next h => rw [min_eq_left h]
  · next h => rw [min_eq_right (not_le.1 h).le]

/-- A failure of `VIEW` clears `view_loaded` and no other loaded flag (40_command_engine.md R126). -/
theorem commitFailure_view (c : Cause) (info : Word) (s : State) :
    commitFailure .view c info s = failed c.kind.code c.code info { s with viewLoaded := false } := by
  simp [commitFailure, failed, failClearsView, failClearsHeader, failClearsTs]

theorem exec_view_inBounds {s : State} (h : offsetArg s + lengthArg s ≤ bufferLen s) :
    exec .view s =
      .next (succeeded false { s with viewOffset := s.argOffset, viewLen := s.argLength, viewLoaded := true }) := by
  change commit .view (viewVerdict s) s = _
  rcases viewVerdict_cases s with ⟨_, e⟩ | ⟨hout, _⟩
  · rw [e]
    rfl
  · exact absurd h (not_le.2 hout)

theorem exec_view_outOfBounds {s : State} (h : bufferLen s < offsetArg s + lengthArg s) :
    exec .view s =
      .next (failed 1 0x01 (saturated (offsetArg s + lengthArg s)) { s with viewLoaded := false }) := by
  change commit .view (viewVerdict s) s = _
  rcases viewVerdict_cases s with ⟨hin, _⟩ | ⟨_, e⟩
  · exact absurd h (not_lt.2 hin)
  · rw [e, sat32_eq_saturated]
    exact congrArg _ (commitFailure_view _ _ s)

/-- Settles O8, by the two sides of the bound. -/
theorem viewResult : Obligations.ViewResult :=
  ⟨rfl, fun _ => ⟨exec_view_inBounds, exec_view_outOfBounds⟩⟩

end Sys2Proof.Machine

/-! The header check by its own checks (42_header.md R152, R154, R156, R158). -/

namespace Sys2Proof.Machine

open Claims

theorem magicOf_toNat (h : Vector Byte 24) : (magicOf h).toNat = h[0].toNat * 256 + h[1].toNat :=
  append_toNat h[0] h[1]

theorem magicOf_eq_iff (h : Vector Byte 24) :
    magicOf h = 0x2323#16 ↔ h[0].toNat * 256 + h[1].toNat = 0x2323 := by
  rw [← BitVec.toNat_inj, magicOf_toNat]
  rfl

theorem responseCodeOk_iff (r : Byte) : responseCodeOk r = true ↔ r ∈ [0x01#8, 0x02#8, 0x03#8, 0xFE#8] := by
  simp [responseCodeOk, or_assoc]

theorem encryptionOk_iff (e : Byte) :
    encryptionOk e = true ↔ e ∈ [0x01#8, 0x02#8, 0x03#8, 0xFE#8, 0xFF#8] := by
  simp [encryptionOk, or_assoc]

section checks

variable {h : Vector Byte 24}

theorem headerCheck_magicInvalid (hmagic : magicOf h ≠ 0x2323#16) :
    headerCheck h = some (.magicInvalid, (magicOf h).setWidth 32) :=
  if_pos hmagic

theorem headerCheck_responseCodeInvalid (hmagic : magicOf h = 0x2323#16) (hrsp : ¬responseCodeOk h[3] = true) :
    headerCheck h = some (.responseCodeInvalid, h[3].setWidth 32) := by
  simp [headerCheck, hmagic, hrsp]

theorem headerCheck_encryptionInvalid (hmagic : magicOf h = 0x2323#16) (hrsp : responseCodeOk h[3] = true)
    (henc : ¬encryptionOk h[21] = true) : headerCheck h = some (.encryptionInvalid, h[21].setWidth 32) := by
  simp [headerCheck, hmagic, hrsp, henc]

/-- Past the first three checks the VIN decides. -/
theorem headerCheck_vin (hmagic : magicOf h = 0x2323#16) (hrsp : responseCodeOk h[3] = true)
    (henc : encryptionOk h[21] = true) :
    headerCheck h =
      if vinLength h < 17 then some (.vinLengthInvalid, BitVec.ofNat 32 (vinLength h)) else none := by
  simp [headerCheck, hmagic, hrsp, henc]

/-- A header passes where no check fails. -/
theorem headerCheck_eq_none_iff :
    headerCheck h = none ↔
      magicOf h = 0x2323#16 ∧ responseCodeOk h[3] = true ∧ encryptionOk h[21] = true ∧ vinLength h = 17 := by
  constructor
  · intro hc
    have hvin := vinLength_of_headerCheck_none hc
    unfold headerCheck at hc
    split_ifs at hc with hmagic hrsp henc
    exact ⟨not_not.1 hmagic, by simpa using hrsp, by simpa using henc, hvin⟩
  · rintro ⟨hmagic, hrsp, henc, hvin⟩
    rw [headerCheck_vin hmagic hrsp henc, if_neg hvin.not_lt]

/-- Whatever check fails, its cause is a header cause, of kind `INVALID_HEADER` (60_exceptions.md R232). -/
theorem headerCheck_cause {c : Cause} {info : Word} (hc : headerCheck h = some (c, info)) :
    c.kind.code = 2 ∧ (c, c.code) ∈ headerCauses := by
  unfold headerCheck at hc
  split_ifs at hc <;> cases hc <;> decide

end checks

/-- Settles O16, check by check: each equation needs the earlier checks passed. -/
theorem headerCheckReportsFirstFailure : Obligations.HeaderCheckReportsFirstFailure := by
  intro h
  simp only [← responseCodeOk_iff, ← encryptionOk_iff, ← magicOf_toNat, BitVec.ofNat_toNat]
  refine ⟨fun hne => headerCheck_magicInvalid fun e => hne (congrArg BitVec.toNat e), fun heq => ?_,
    fun _ _ => headerCheck_cause⟩
  have hmagic : magicOf h = 0x2323#16 := BitVec.eq_of_toNat_eq heq
  refine ⟨headerCheck_responseCodeInvalid hmagic, fun hrsp =>
    ⟨headerCheck_encryptionInvalid hmagic hrsp, fun henc => ⟨fun j hnul hfirst => ?_, fun hno => ?_⟩⟩⟩
  · have hj : vinLength h = j.val := (vinLength_eq_iff h j).2 ⟨hnul, hfirst⟩
    rw [headerCheck_vin hmagic hrsp henc, hj, if_pos j.isLt]
  · exact headerCheck_eq_none_iff.2 ⟨hmagic, hrsp, henc, (vinLength_eq_17_iff h).2 hno⟩

/-- Settles O17: each check's condition in the bytes of the header. -/
theorem headerCheckCharacterised : Obligations.HeaderCheckCharacterised := by
  intro h
  rw [headerCheck_eq_none_iff, magicOf_eq_iff, responseCodeOk_iff, encryptionOk_iff, vinLength_eq_17_iff]

end Sys2Proof.Machine

/-! The completions of `HDR_PARSE` and `HDR_VALIDATE` (42_header.md R150, R153), and what a validation depends on
(43_packet.md R183 to R185). -/

namespace Sys2Proof.Machine

open Claims

theorem commitSuccess_eq_succeeded (i : Instr) (u : State) :
    commitSuccess i u = succeeded (successSetsValid i) u := rfl

/-- A failure of a parse clears the two flags of the header (40_command_engine.md R126). -/
theorem commitFailure_parse {i : Instr} (hi : i = .hdrParse ∨ i = .pktParse) (c : Cause) (info : Word) (s : State) :
    commitFailure i c info s =
      failed c.kind.code c.code info { s with hdrLoaded := false, pktLoaded := false } := by
  rcases hi with rfl | rfl <;> simp [commitFailure, failed, failClearsView, failClearsHeader, failClearsTs]

theorem exec_hdrParse_inBounds {s : State} (h : offsetArg s + 24 ≤ bufferLen s) :
    exec .hdrParse s =
      .next (succeeded false { s with
        hdrRaw := (memRead s.ram (offsetArg s) s.draws 24).1, hdrOffset := s.argOffset,
        hdrLoaded := true, pktLoaded := false, draws := (memRead s.ram (offsetArg s) s.draws 24).2 }) := by
  rw [exec_eq_commit]
  rcases hdrParseVerdict_cases s with ⟨hout, _⟩ | ⟨_, e⟩
  · exact absurd h (not_le.2 hout)
  · exact congrArg (commit .hdrParse · s) e

theorem exec_hdrParse_outOfBounds {s : State} (h : bufferLen s < offsetArg s + 24) :
    exec .hdrParse s =
      .next (failed 2 0x01 (saturated (offsetArg s + 24)) { s with hdrLoaded := false, pktLoaded := false }) := by
  rw [exec_eq_commit]
  rcases hdrParseVerdict_cases s with ⟨_, e⟩ | ⟨hin, _⟩
  · rw [verdictOf, e, sat32_eq_saturated]
    exact congrArg _ (commitFailure_parse (.inl rfl) _ _ s)
  · exact absurd h (not_lt.2 hin)

/-- Settles O9, by the two sides of the bound; a written byte is latched as it was written. -/
theorem hdrParseResult : Obligations.HdrParseResult :=
  ⟨rfl, fun s => ⟨fun h => ⟨_, _, exec_hdrParse_inBounds h,
      fun k _ hb => memRead_written s.ram _ _ 24 k k.isLt hb⟩,
    exec_hdrParse_outOfBounds⟩⟩

/-- A failure of a validation clears no loaded flag (42_header.md R153, 43_packet.md R183). -/
theorem commitFailure_validate {i : Instr} (hi : i = .hdrValidate ∨ i = .pktValidate) (c : Cause) (info : Word)
    (s : State) : commitFailure i c info s = failed c.kind.code c.code info s := by
  rcases hi with rfl | rfl <;> exact commitFailure_eq_failed c info s rfl rfl rfl

/-- A validation that has its header completes as the header check says. -/
theorem commit_check_passed {i : Instr} {s : State} (hi : i = .hdrValidate ∨ i = .pktValidate)
    (hc : headerCheck s.hdrRaw = none) : commit i (checkVerdict s) s = .next (succeeded true s) := by
  rw [checkVerdict, hc, commit, commitSuccess_eq_succeeded, (successSetsValid_iff i).2 hi]

theorem commit_check_failed {i : Instr} {s : State} {c : Cause} {info : Word}
    (hi : i = .hdrValidate ∨ i = .pktValidate) (hc : headerCheck s.hdrRaw = some (c, info)) :
    ∃ n, (c, n) ∈ headerCauses ∧ commit i (checkVerdict s) s = .next (failed 2 n info s) := by
  obtain ⟨hkind, hcause⟩ := headerCheck_cause hc
  refine ⟨c.code, hcause, ?_⟩
  rw [checkVerdict, hc, ← hkind]
  exact congrArg _ (commitFailure_validate hi c info s)

theorem exec_hdrValidate_unloaded {s : State} (h : s.hdrLoaded = false) :
    exec .hdrValidate s = .next (failed 4 0x03 0 s) := by
  rw [exec_eq_commit, verdictOf, hdrValidateVerdict, h]
  exact congrArg _ (commitFailure_validate (.inl rfl) .noHeader 0 s)

theorem exec_hdrValidate_loaded {s : State} (h : s.hdrLoaded = true) :
    exec .hdrValidate s = commit .hdrValidate (checkVerdict s) s := by
  rw [exec_eq_commit, verdictOf, hdrValidateVerdict, if_pos h]

/-- Settles O10: without a header the failure is fixed, and with one the header check decides. -/
theorem hdrValidateResult : Obligations.HdrValidateResult := by
  refine ⟨rfl, fun s => ⟨exec_hdrValidate_unloaded, fun hl hc => ?_, fun hl c info hc => ?_⟩⟩
  · rw [exec_hdrValidate_loaded hl]
    exact commit_check_passed (.inl rfl) hc
  · rw [exec_hdrValidate_loaded hl]
    exact commit_check_failed (.inl rfl) hc

/-- What a verdict reports: nothing for a success, the cause and info of a failure. -/
def Verdict.report : Verdict → Option (Cause × Word)
  | .success _ => none
  | .fail c info => some (c, info)

theorem checkVerdict_report (s : State) : (checkVerdict s).report = headerCheck s.hdrRaw := by
  rcases checkVerdict_cases s with ⟨hc, e⟩ | ⟨c, info, hc, e⟩ <;> rw [e, hc] <;> rfl

theorem hdrValidateVerdict_report (s : State) :
    (hdrValidateVerdict s).report = if s.hdrLoaded then headerCheck s.hdrRaw else some (.noHeader, 0) := by
  rw [hdrValidateVerdict, apply_ite Verdict.report, checkVerdict_report]
  rfl

theorem pktValidateVerdict_report (s : State) :
    (pktValidateVerdict s).report = if s.pktLoaded then headerCheck s.hdrRaw else some (.noPacket, 0) := by
  rw [pktValidateVerdict, apply_ite Verdict.report, checkVerdict_report]
  rfl

/-- The commits take `valid` and the error registers from the command and its report alone, whatever the state. -/
theorem exec_outcome_of_report_eq {i : Instr} {s u : State} (h : (verdictOf i s).report = (verdictOf i u).report) :
    ∃ t v, exec i s = .next t ∧ exec i u = .next v ∧ t.valid = v.valid ∧
      t.errKind = v.errKind ∧ t.errCause = v.errCause ∧ t.errInfo = v.errInfo := by
  rw [exec_eq_commit, exec_eq_commit]
  cases hs : verdictOf i s with
  | success s' =>
    cases hu : verdictOf i u with
    | success u' => exact ⟨_, _, rfl, rfl, rfl, rfl, rfl, rfl⟩
    | fail c info => simp [hs, hu, Verdict.report] at h
  | fail c info =>
    cases hu : verdictOf i u with
    | success u' => simp [hs, hu, Verdict.report] at h
    | fail c' info' =>
      obtain ⟨rfl, rfl⟩ : c = c' ∧ info = info' := by simpa [hs, hu, Verdict.report] using h
      exact ⟨_, _, rfl, rfl, rfl, rfl, rfl, rfl⟩

/-- Settles O18: a validation's report is a function of its loaded flag and the latched header. -/
theorem validationIgnoresEverythingElse : Obligations.ValidationIgnoresEverythingElse := by
  refine fun s u hraw => ⟨fun hflag => exec_outcome_of_report_eq ?_, fun hflag => exec_outcome_of_report_eq ?_⟩
  · rw [verdictOf, verdictOf, hdrValidateVerdict_report, hdrValidateVerdict_report, hraw, hflag]
  · rw [verdictOf, verdictOf, pktValidateVerdict_report, pktValidateVerdict_report, hraw, hflag]

end Sys2Proof.Machine

/-! The header registers (42_header.md R151, 10_state.md R39 to R42). -/

namespace Sys2Proof.Machine

theorem readReg_hdrMagic_toNat (s : State) :
    (readReg .hdrMagic s).toNat = s.hdrRaw[0].toNat * 256 + s.hdrRaw[1].toNat :=
  (BitVec.toNat_setWidth_of_le (by decide)).trans (magicOf_toNat s.hdrRaw)

theorem readReg_hdrCodes_toNat (s : State) :
    (readReg .hdrCodes s).toNat =
      (rspEnum s.hdrRaw[3]).toNat * 2 ^ 24 + s.hdrRaw[3].toNat * 2 ^ 16 +
        (cmdEnum s.hdrRaw[2]).toNat * 2 ^ 8 + s.hdrRaw[2].toNat := by
  simp only [readReg, append_toNat, BitVec.toNat_ofNat]
  omega

theorem readReg_hdrEnc_toNat (s : State) :
    (readReg .hdrEnc s).toNat =
      (dataLengthOf s.hdrRaw).toNat * 2 ^ 16 + (encEnum s.hdrRaw[21]).toNat * 2 ^ 8 + s.hdrRaw[21].toNat := by
  simp only [readReg, append_toNat, BitVec.toNat_ofNat]
  omega

/-- Each field of `HDR_CODES`, from the word's number. -/
theorem readReg_hdrCodes_layout (s : State) :
    (readReg .hdrCodes s).extractLsb' 0 8 = s.hdrRaw[2] ∧
    (readReg .hdrCodes s).extractLsb' 8 3 = cmdEnum s.hdrRaw[2] ∧
    (readReg .hdrCodes s).extractLsb' 16 8 = s.hdrRaw[3] ∧
    (readReg .hdrCodes s).extractLsb' 24 3 = rspEnum s.hdrRaw[3] ∧
    (readReg .hdrCodes s).extractLsb' 11 5 = 0 ∧ (readReg .hdrCodes s).extractLsb' 27 5 = 0 := by
  have hword := readReg_hdrCodes_toNat s
  have hcmd := s.hdrRaw[2].isLt
  have hcmdCode := (cmdEnum s.hdrRaw[2]).isLt
  have hrsp := s.hdrRaw[3].isLt
  have hrspCode := (rspEnum s.hdrRaw[3]).isLt
  have hzero : (0 : BitVec 5).toNat = 0 := rfl
  refine ⟨extractLsb'_eq_of_toNat ?_, extractLsb'_eq_of_toNat ?_, extractLsb'_eq_of_toNat ?_,
    extractLsb'_eq_of_toNat ?_, extractLsb'_eq_of_toNat (hzero.symm ▸ ?_),
    extractLsb'_eq_of_toNat (hzero.symm ▸ ?_)⟩
  all_goals omega

/-- Each field of `HDR_ENC`, from the word's number. -/
theorem readReg_hdrEnc_layout (s : State) :
    (readReg .hdrEnc s).extractLsb' 0 8 = s.hdrRaw[21] ∧
    (readReg .hdrEnc s).extractLsb' 8 3 = encEnum s.hdrRaw[21] ∧
    (readReg .hdrEnc s).extractLsb' 16 16 = dataLengthOf s.hdrRaw ∧
    (readReg .hdrEnc s).extractLsb' 11 5 = 0 := by
  have hword := readReg_hdrEnc_toNat s
  have henc := s.hdrRaw[21].isLt
  have hencCode := (encEnum s.hdrRaw[21]).isLt
  have hlen := (dataLengthOf s.hdrRaw).isLt
  have hzero : (0 : BitVec 5).toNat = 0 := rfl
  refine ⟨extractLsb'_eq_of_toNat ?_, extractLsb'_eq_of_toNat ?_, extractLsb'_eq_of_toNat ?_,
    extractLsb'_eq_of_toNat (hzero.symm ▸ ?_)⟩
  all_goals omega

/-- A register of four lanes shows four consecutive bytes of the header. -/
theorem lanes_of_header (h : Vector Byte 24) (n : Nat) (hn : n + 3 < 24) (k : Fin 4) :
    (lanes h[n] h[n + 1] h[n + 2] h[n + 3]).extractLsb' (8 * k) 8 = h[n + k.val] := by
  rw [lanes_byte]
  match k with
  | 0 | 1 | 2 | 3 => rfl

/-- `HDR_VIN4` shows the last VIN byte below zeros (10_state.md R42). -/
theorem readReg_hdrVin4_toNat (s : State) : (readReg .hdrVin4 s).toNat = s.hdrRaw[20].toNat := by
  change (lanes s.hdrRaw[20] 0#8 0#8 0#8).toNat = _
  simp only [lanes_toNat, BitVec.toNat_ofNat]
  omega

/-- Settles O39, by the layout of each register. -/
theorem headerRegistersShowLatchedBytes : Obligations.HeaderRegistersShowLatchedBytes := by
  intro s
  obtain ⟨hcmd, hcmdCode, hrsp, hrspCode, hpad, hpadHigh⟩ := readReg_hdrCodes_layout s
  obtain ⟨henc, hencCode, hlen, hpadEnc⟩ := readReg_hdrEnc_layout s
  exact ⟨readReg_hdrMagic_toNat s, hcmd, hcmdCode, hrsp, hrspCode, henc, hencCode,
    hlen.symm ▸ dataLengthOf_toNat s.hdrRaw, hpad, hpadHigh, hpadEnc,
    fun k => ⟨lanes_of_header s.hdrRaw 4 (by decide) k, lanes_of_header s.hdrRaw 8 (by decide) k,
      lanes_of_header s.hdrRaw 12 (by decide) k, lanes_of_header s.hdrRaw 16 (by decide) k⟩,
    readReg_hdrVin4_toNat s⟩

end Sys2Proof.Machine

/-! The completions of `PKT_PARSE` and `PKT_VALIDATE` (43_packet.md R180, R183), the payload length law (R181) and the
checksum byte (R182). -/

namespace Sys2Proof.Machine

open Claims

/-- Step 1 of R180: no room for the header. -/
theorem exec_pktParse_headerTooShort {s : State} (h : bufferLen s < offsetArg s + 24) :
    exec .pktParse s =
      .next (failed 2 0x01 (saturated (offsetArg s + 24)) { s with hdrLoaded := false, pktLoaded := false }) := by
  rw [exec_eq_commit]
  rcases pktParseVerdict_cases s with ⟨_, e⟩ | ⟨heq, _⟩ | ⟨hin, _⟩
  · rw [verdictOf, e, sat32_eq_saturated]
    exact congrArg _ (commitFailure_parse (.inr rfl) _ _ s)
  · exact absurd heq h.ne
  · exact absurd ((Nat.le_succ _).trans hin) (not_le.2 h)

/-- Step 2 of R180: room for the header and for no byte after it. The verdict is a failure, so the header read in step
1 is not latched. -/
theorem exec_pktParse_noChecksumByte {s : State} (h : bufferLen s = offsetArg s + 24) :
    exec .pktParse s =
      .next (failed 1 0x01 (saturated (offsetArg s + 25)) { s with hdrLoaded := false, pktLoaded := false }) := by
  rw [exec_eq_commit]
  rcases pktParseVerdict_cases s with ⟨hout, _⟩ | ⟨_, e⟩ | ⟨hin, _⟩
  · exact absurd h hout.ne
  · rw [verdictOf, e, sat32_eq_saturated]
    exact congrArg _ (commitFailure_parse (.inr rfl) _ _ s)
  · exact absurd h (Nat.lt_of_succ_le hin).ne'

theorem exec_pktParse_inBounds {s : State} (h : offsetArg s + 25 ≤ bufferLen s) :
    exec .pktParse s = .next (succeeded false (pktParsed s)) := by
  rw [exec_eq_commit]
  rcases pktParseVerdict_cases s with ⟨hout, _⟩ | ⟨heq, _⟩ | ⟨_, e⟩
  · exact absurd ((Nat.le_succ _).trans h) (not_le.2 hout)
  · exact absurd heq (Nat.lt_of_succ_le h).ne'
  · exact congrArg (commit .pktParse · s) e

/-- A header byte that has been written is latched as it was written. -/
theorem pktParsed_hdrRaw_written {s : State} (k : Fin 24) {b : Byte} (hb : s.ram.read? (offsetArg s + k) = some b) :
    (pktParsed s).hdrRaw[k] = b :=
  memRead_written s.ram _ _ 24 k k.isLt hb

/-- The checksum is the buffer's last byte, where that has been written, however many bytes the header drew. -/
theorem pktParsed_checksum_written {s : State} {b : Byte} (hb : s.ram.read? (bufferLen s - 1) = some b) :
    (pktParsed s).checksum = b :=
  congrArg Prod.fst (readByte_written hb)

/-- Settles O11, by the length of the buffer against the end of the header: shorter, equal, longer. -/
theorem pktParseResult : Obligations.PktParseResult :=
  ⟨rfl, fun _ => ⟨exec_pktParse_headerTooShort, exec_pktParse_noChecksumByte, fun h =>
    ⟨_, _, _, exec_pktParse_inBounds h, fun k _ => pktParsed_hdrRaw_written k, fun _ => pktParsed_checksum_written⟩⟩⟩

theorem exec_pktValidate_unloaded {s : State} (h : s.pktLoaded = false) :
    exec .pktValidate s = .next (failed 4 0x04 0 s) := by
  rw [exec_eq_commit, verdictOf, pktValidateVerdict, h]
  exact congrArg _ (commitFailure_validate (.inr rfl) .noPacket 0 s)

theorem exec_pktValidate_loaded {s : State} (h : s.pktLoaded = true) :
    exec .pktValidate s = commit .pktValidate (checkVerdict s) s := by
  rw [exec_eq_commit, verdictOf, pktValidateVerdict, if_pos h]

/-- Settles O12: without a packet the failure is fixed, and with one the header check decides. -/
theorem pktValidateResult : Obligations.PktValidateResult := by
  refine ⟨rfl, fun s => ⟨exec_pktValidate_unloaded, fun hl hc => ?_, fun hl c info hc => ?_⟩⟩
  · rw [exec_pktValidate_loaded hl]
    exact commit_check_passed (.inr rfl) hc
  · rw [exec_pktValidate_loaded hl]
    exact commit_check_failed (.inr rfl) hc

/-- A `PKT_PARSE` that records no error found a byte after the header, and committed the parsed packet. -/
theorem pktParsed_of_exec_success {s t : State} (h : exec .pktParse s = .next t) (ht : t.errKind = 0) :
    offsetArg s + 25 ≤ bufferLen s ∧ t = commitSuccess .pktParse (pktParsed s) := by
  cases exec_cases h with
  | failure c info => exact absurd ht (cause_kind_code_ne_zero c)
  | pktParsed _ hb => exact ⟨hb, rfl⟩
  | validated hi => rcases hi with hi | hi <;> cases hi
  | nop hi | view hi | hdrParsed hi | tsDecoded hi | tsEncoded hi => cases hi

/-- Settles O19: the payload registers of the packet that was parsed, which do not wrap, as integers. -/
theorem payloadLengthLaw : Obligations.PayloadLengthLaw := by
  intro s t h ht
  obtain ⟨hb, rfl⟩ := pktParsed_of_exec_success h ht
  obtain ⟨hoff, hlen⟩ : (pktParsed s).payOffset.toNat = s.argOffset.toNat + 24 ∧ _ := pktParsed_payload hb
  simp only [commitSuccess_payLen, commitSuccess_payOffset, commitSuccess_bufLen]
  omega

/-- Settles O20: the checksum of the packet that was parsed, and its zero-extension in `PKT_CHECKSUM`. -/
theorem checksumIsTheLastByte : Obligations.ChecksumIsTheLastByte := by
  intro s t b h ht hb
  obtain ⟨_, rfl⟩ := pktParsed_of_exec_success h ht
  have hsum : (pktParsed s).checksum = b := pktParsed_checksum_written hb
  refine ⟨hsum, ?_⟩
  rw [readReg, commitSuccess_checksum, hsum, BitVec.ofNat_toNat]

end Sys2Proof.Machine

/-! The completions of `TS_DECODE` and `TS_ENCODE` (44_timestamp.md R200, R210) and the round trip through the frame RAM
(R212). -/

namespace Sys2Proof.Machine

open Claims

/-- A failure of `TS_DECODE` clears `ts_loaded` and no other loaded flag (40_command_engine.md R126). -/
theorem commitFailure_tsDecode (c : Cause) (info : Word) (s : State) :
    commitFailure .tsDecode c info s = failed c.kind.code c.code info { s with tsLoaded := false } := by
  simp [commitFailure, failed, failClearsView, failClearsHeader, failClearsTs]

theorem exec_tsDecode_inBounds {s : State} (h : offsetArg s + 6 ≤ bufferLen s) :
    exec .tsDecode s =
      .next (succeeded false { s with
        tsRaw := (memRead s.ram (offsetArg s) s.draws 6).1, tsOffset := s.argOffset,
        tsLoaded := true, draws := (memRead s.ram (offsetArg s) s.draws 6).2 }) := by
  rw [exec_eq_commit]
  rcases tsDecodeVerdict_cases s with ⟨_, e⟩ | ⟨hout, _⟩
  · exact congrArg (commit .tsDecode · s) e
  · exact absurd h (not_le.2 hout)

theorem exec_tsDecode_outOfBounds {s : State} (h : bufferLen s < offsetArg s + 6) :
    exec .tsDecode s =
      .next (failed 1 0x01 (saturated (offsetArg s + 6)) { s with tsLoaded := false }) := by
  rw [exec_eq_commit]
  rcases tsDecodeVerdict_cases s with ⟨hin, _⟩ | ⟨_, e⟩
  · exact absurd h (not_lt.2 hin)
  · rw [verdictOf, e, sat32_eq_saturated]
    exact congrArg _ (commitFailure_tsDecode _ _ s)

/-- Settles O13, by the two sides of the bound; a written byte is latched as it was written. -/
theorem tsDecodeResult : Obligations.TsDecodeResult :=
  ⟨rfl, fun s => ⟨fun h => ⟨_, _, exec_tsDecode_inBounds h,
      fun k _ hb => memRead_written s.ram _ _ 6 k k.isLt hb⟩,
    exec_tsDecode_outOfBounds⟩⟩

/-- The six bytes of the calendar fields in the argument registers (44_timestamp.md R210). -/
def encodedTimestamp (s : State) : Vector Byte 6 :=
  #v[yearByte s.encYear, s.encMonth, s.encDay, s.encHour, s.encMinute, s.encSecond]

theorem exec_tsEncode (s : State) :
    exec .tsEncode s = .next (succeeded false { s with tsOut := encodedTimestamp s }) := rfl

theorem yearByte_toNat (year : BitVec 16) : ((yearByte year).toNat : Int) = ((year.toNat : Int) - 2000) % 256 := by
  rw [yearByte, BitVec.toNat_ofInt]
  exact Int.toNat_of_nonneg (Int.emod_nonneg _ (by decide))

/-- In the years that a signed byte reaches from 2000, the year byte loses nothing (44_timestamp.md R212). -/
theorem yearByte_toInt {year : BitVec 16} (hlo : 1872 ≤ year.toNat) (hhi : year.toNat ≤ 2127) :
    (yearByte year).toInt = (year.toNat : Int) - 2000 :=
  BitVec.toInt_ofInt_eq_self (by decide) (by omega) (by omega)

/-- Settles O14: the encoder's completion, and its year byte as a number. -/
theorem tsEncodeResult : Obligations.TsEncodeResult :=
  ⟨rfl, fun s => ⟨yearByte s.encYear, exec_tsEncode s, yearByte_toNat s.encYear⟩⟩

theorem readReg_tsDate_toNat (s : State) :
    (readReg .tsDate s).toNat = s.tsRaw[2].toNat * 256 + s.tsRaw[1].toNat := by
  change (lanes s.tsRaw[1] s.tsRaw[2] 0#8 0#8).toNat = _
  simp only [lanes_toNat, BitVec.toNat_ofNat]
  omega

theorem readReg_tsTime_toNat (s : State) :
    (readReg .tsTime s).toNat = s.tsRaw[5].toNat * 65536 + s.tsRaw[4].toNat * 256 + s.tsRaw[3].toNat := by
  change (lanes s.tsRaw[3] s.tsRaw[4] s.tsRaw[5] 0#8).toNat = _
  simp only [lanes_toNat, BitVec.toNat_ofNat]
  omega

/-- Reading where a sequence of bytes has been written gives back the sequence. -/
theorem memRead_eq_of_written {m : Memory} {i n : Nat} (d : Nat) {v : Vector Byte n}
    (h : ∀ k : Fin n, m.read? (i + k) = some v[k]) : (memRead m i d n).1 = v :=
  Vector.ext fun k hk => memRead_written m i d n k hk (h ⟨k, hk⟩)

/-- What the timestamp registers show of the encoder's bytes, once these are latched (44_timestamp.md R212). -/
theorem timestampRegisters_of_encoded {s v : State} (hraw : v.tsRaw = encodedTimestamp s) :
    (1872 ≤ s.encYear.toNat → s.encYear.toNat ≤ 2127 →
      (readReg .tsYear v).toInt = (s.encYear.toNat : Int) - 1900) ∧
    (readReg .tsYear v).toInt = 100 + (yearByte s.encYear).toInt ∧
    (readReg .tsDate v).toNat = s.encDay.toNat * 256 + s.encMonth.toNat ∧
    (readReg .tsTime v).toNat = s.encSecond.toNat * 65536 + s.encMinute.toNat * 256 + s.encHour.toNat ∧
    (readReg .tsMon0 v).toInt = (s.encMonth.toNat : Int) - 1 := by
  have hyear : (readReg .tsYear v).toInt = 100 + (yearByte s.encYear).toInt := by
    rw [readReg_tsYear_toInt, hraw]
    rfl
  rw [readReg_tsDate_toNat, readReg_tsTime_toNat, readReg_tsMon0_toInt, hraw]
  refine ⟨fun hlo hhi => ?_, hyear, rfl, rfl, rfl⟩
  rw [hyear, yearByte_toInt hlo hhi]
  omega

/-- Settles O21: the decoder latches the encoder's bytes, and each timestamp register shows its own of them. -/
theorem timestampRoundTrip : Obligations.TimestampRoundTrip := fun s =>
  ⟨_, exec_tsEncode s, fun u hin hbytes => ⟨_, exec_tsDecode_inBounds hin, rfl,
    timestampRegisters_of_encoded (memRead_eq_of_written u.draws hbytes)⟩⟩

end Sys2Proof.Machine

/-! The error registers across a step (60_exceptions.md R232), and that no step stops the machine (R230, R236). -/

namespace Sys2Proof.Machine

/-- A reset zeroes the error registers (10_state.md R53). -/
theorem errorPairLegal_resetElements (s : State) : errorPairLegal (resetElements s) := .inl ⟨rfl, rfl, rfl⟩

/-- The error registers are read-only: of the register writes only a soft reset changes them. -/
theorem RegWriteResult.keeps_errorPairLegal {r : Reg} {w : Word} {s t : State} (h : RegWriteResult r w s t)
    (hs : errorPairLegal s) : errorPairLegal t := by
  cases h with
  | softReset => exact errorPairLegal_resetElements s
  | _ => exact hs

/-- Settles O54: a completion leaves a listed pair or zeros, a reset zeros, and every other step the old pair. -/
theorem errorPairsStayLegal : Obligations.ErrorPairsStayLegal := by
  intro s t hs hstep
  cases step_cases hstep with
  | quiet => exact hs
  | waits => exact hs
  | completes ins t _ _ _ he => exact he.errorPairLegal
  | writesReg a r w ins => exact (writeReg_result r w { s with inputs := ins }).keeps_errorPairLegal hs
  | writesWindow a i w ins =>
    have hkeep : errorPairLegal (whenIdle { s with inputs := ins } (writeWindow i w { s with inputs := ins })) =
        errorPairLegal { s with inputs := ins } := whenIdle_keeps errorPairLegal rfl rfl
    exact hkeep.mpr hs
  | samples level ins =>
    cases level with
    | true => exact hs
    | false => exact errorPairLegal_resetElements { s with inputs := ins }

theorem engineTurn_next (s : State) : ∃ t, engineTurn s = .next t := by
  rcases engineTurn_cases s with ⟨_, e⟩ | ⟨_, e⟩ <;> rw [e]
  · exact exec_next (decode s.cmd) s
  · exact ⟨s, rfl⟩

theorem clockCycle_next (s : State) : ∃ t, clockCycle s = .next t := by
  rcases clockCycle_cases s with ⟨_, e⟩ | ⟨_, _, e⟩ | ⟨_, _, e⟩ <;> rw [e]
  · exact ⟨s, rfl⟩
  · exact ⟨_, rfl⟩
  · exact exec_next (decode s.cmd) s

theorem takeInput_next (i : Input) (s : State) : ∃ t, takeInput i s = .next t := by
  cases i with
  | write a w => exact ⟨busWrite a w s, rfl⟩
  | read a => exact ⟨busRead a s, rfl⟩
  | engine => exact engineTurn_next s
  | clock => exact clockCycle_next s
  | rst level => exact ⟨sampleRst level s, rfl⟩

/-- Settles O48: with or without a next input, the step ends in a next state. -/
theorem everyStepProceeds : Obligations.EveryStepProceeds := by
  intro s
  cases hin : s.inputs with
  | nil => exact step_of_inputs_nil hin ▸ engineTurn_next s
  | cons i rest => exact step_of_inputs_cons hin ▸ takeInput_next i _

end Sys2Proof.Machine

/-! The interrupt output (60_exceptions.md R241). -/

namespace Sys2Proof.Machine

theorem irq_eq_true_iff (s : State) : irq s = true ↔ s.irqEn = true ∧ s.done = true := Bool.and_eq_true_iff

/-- With `done` clear the output is low, whatever `irq_en` is. -/
theorem irq_of_done_eq_false {s : State} (h : s.done = false) : irq s = false := by
  rw [irq, h, Bool.and_false]

/-- With `done` set the output is the interrupt enable. -/
theorem irq_of_done_eq_true {s : State} (h : s.done = true) : irq s = s.irqEn := by
  rw [irq, h, Bool.and_true]

/-- A write of 1 to `STATUS[1]` acknowledges (10_state.md R26). -/
theorem writeStatus_acknowledges {w : Word} (s : State) (hw : w[1] = true) : (writeStatus w s).done = false := by
  rw [writeStatus_done, hw, Bool.not_true, Bool.and_false]

/-- A write to `CTRL` with bit 1 clear sets the interrupt enable and nothing else, in flight or not. -/
theorem busWrite_ctrl_irqEn {w : Word} {s : State} (hr : s.rstN = true) (hw : w[1] = false) :
    busWrite 0x000004#24 w s = { s with irqEn := w[0], bus := .wrote .okay } := by
  rw [busWrite_ctrl w hr, writeCtrl_irqEn s hw]
  rfl

/-- Settles O44: each event by what it does to `done`, and the enable by what a write to `CTRL` stores. -/
theorem irqIsALevel : Obligations.IrqIsALevel := by
  refine ⟨irq_eq_true_iff, fun i s t hx => ?_, fun s w hr hw => ?_, fun s w hr hb => ?_, fun s => ?_,
    fun s w hr hw => ?_⟩
  · have h := exec_cases hx
    obtain ⟨_, hdone⟩ := h.handshake
    obtain ⟨_, hirqEn, _⟩ := h.sameOutsideResults
    exact ⟨hdone, (irq_of_done_eq_true hdone).trans hirqEn⟩
  · have hwrite : busWrite 0x000008#24 w s = reply (.wrote .okay) (writeStatus w s) := busWrite_regAddr .status w hr
    rw [hwrite]
    exact irq_of_done_eq_false (writeStatus_acknowledges s hw)
  · rw [busWrite_cmd_idle w hr hb]
    exact irq_of_done_eq_false rfl
  · exact irq_of_done_eq_false rfl
  · rw [busWrite_ctrl_irqEn hr hw]
    exact ⟨rfl, rfl⟩

end Sys2Proof.Machine

/-! The hold of a low `rst_n`: which steps leave the pin low, and what they leave of the machine
(70_reset_and_hazards.md R260, R261). -/

namespace Sys2Proof.Machine

/-- No command drives the reset pin. -/
theorem ExecResult.rstN_eq {i : Instr} {s t : State} (h : ExecResult i s t) : t.rstN = s.rstN := by
  obtain ⟨_, _, _, _, _, _, _, _, _, _, _, _, _, hpin, _⟩ := h.sameOutsideResults
  exact hpin

/-- No register write drives the reset pin, a soft reset included. -/
theorem RegWriteResult.rstN_eq {r : Reg} {w : Word} {s t : State} (h : RegWriteResult r w s t) : t.rstN = s.rstN := by
  cases h <;> rfl

/-- The pin is low after a step only if it was low and the step was quiet, or if the step sampled it low: everything
else needs the pin high and leaves it so. -/
theorem StepResult.low_cases {s t : State} (h : StepResult s t) (ht : t.rstN = false) :
    (s.rstN = false ∧ ∃ ins b d, t = { s with inputs := ins, bus := b, draws := d }) ∨ ∃ u, t = sampleRst false u := by
  have hkept (hhigh : s.rstN = true) (hpin : t.rstN = s.rstN) : False :=
    Bool.false_ne_true (ht.symm.trans (hpin.trans hhigh))
  cases h with
  | quiet ins b d => exact .inl ⟨ht, ins, b, d, rfl⟩
  | waits _ hhigh => exact (hkept hhigh rfl).elim
  | completes _ _ hhigh _ _ he => exact (hkept hhigh he.rstN_eq).elim
  | writesReg a r w ins _ hhigh => exact (hkept hhigh (writeReg_result r w _).rstN_eq).elim
  | writesWindow _ _ _ _ _ hhigh => exact (hkept hhigh (whenIdle_keeps State.rstN rfl rfl)).elim
  | samples level ins =>
    cases level with
    | true => exact absurd ht.symm Bool.false_ne_true
    | false => exact .inr ⟨{ s with inputs := ins }, rfl⟩

/-- The schedule, the last reply and the draws are no elements that a reset puts back (log 6). -/
theorem resetElements_quiet (s : State) (ins : List Input) (b : BusReply) (d : Nat) :
    resetElements { s with inputs := ins, bus := b, draws := d } =
      { resetElements s with inputs := ins, bus := b, draws := d } := rfl

/-- Settles O58: a step that leaves the pin low either changed no element of the reset, or was the reset. -/
theorem resetIsHeldWhileLow : Obligations.ResetIsHeldWhileLow := by
  intro s t hs hstep ht
  rcases (step_cases hstep).low_cases ht with ⟨hlow, ins, b, d, rfl⟩ | ⟨u, rfl⟩
  · rw [resetElements_quiet, hs hlow]
  · rfl

end Sys2Proof.Machine

/-! The wait of the command in flight and its bound (70_reset_and_hazards.md R276; log 5). -/

namespace Sys2Proof.Machine

theorem latencyBounded_of_idle {s : State} (h : s.busy = false) : latencyBounded s :=
  fun hb => absurd (h.symm.trans hb) Bool.false_ne_true

/-- An issue starts the wait at 0, a soft reset abandons the command, and no other register write changes the count. -/
theorem RegWriteResult.keeps_latencyBounded {r : Reg} {w : Word} {s t : State} (h : RegWriteResult r w s t)
    (hs : latencyBounded s) : latencyBounded t := by
  cases h with
  | softReset => exact latencyBounded_of_idle rfl
  | issues => exact fun _ => Nat.succ_pos _
  | _ => exact hs

/-- Settles O59: only a waiting cycle lengthens the wait, and it is taken below the bound only. -/
theorem waitStaysBelowMaxLatency : Obligations.WaitStaysBelowMaxLatency := by
  intro s t hs hstep
  cases step_cases hstep with
  | quiet => exact hs
  | waits _ _ _ hbelow => exact fun _ => hbelow
  | completes ins t _ _ _ he => exact latencyBounded_of_idle he.handshake.1
  | writesReg a r w ins => exact (writeReg_result r w { s with inputs := ins }).keeps_latencyBounded hs
  | writesWindow a i w ins =>
    have hkeep : latencyBounded (whenIdle { s with inputs := ins } (writeWindow i w { s with inputs := ins })) =
        latencyBounded { s with inputs := ins } := whenIdle_keeps latencyBounded rfl rfl
    exact hkeep.mpr hs
  | samples level ins =>
    cases level with
    | true => exact hs
    | false => exact latencyBounded_of_idle rfl

/-- A clock cycle with a command in flight waits below the bound and completes at it. -/
theorem step_clock {s : State} {rest : List Input} (hr : s.rstN = true) (hb : s.busy = true)
    (hin : s.inputs = .clock :: rest) :
    step s =
      if s.waited + 1 < Config.maxLatency then .next { s with inputs := rest, waited := s.waited + 1 }
      else exec (decode s.cmd) { s with inputs := rest } := by
  have henabled : engineEnabled { s with inputs := rest } = true := (engineEnabled_iff _).2 ⟨hr, hb⟩
  rw [step_of_inputs_cons hin]
  exact if_pos henabled

/-- Enough clock cycles in a row complete the command in flight: by induction on their number, each cycle before the
completion taking one from what the bound still allows. -/
theorem run_clocks_completes {s : State} {n : Nat} {rest : List Input} (hr : s.rstN = true) (hb : s.busy = true)
    (hn : 1 ≤ n) (hbound : Config.maxLatency ≤ s.waited + n) (hin : s.inputs = List.replicate n .clock ++ rest) :
    ∃ (k : Nat) (t : State), 1 ≤ k ∧ k ≤ n ∧ Host.Core.run core k s = .next t ∧ t.busy = false ∧ t.done = true := by
  induction n generalizing s with
  | zero => exact absurd hn (by decide)
  | succ n ih =>
    have hcycle := step_clock hr hb hin
    by_cases hbelow : s.waited + 1 < Config.maxLatency
    · rw [if_pos hbelow] at hcycle
      obtain ⟨k, t, _, hkn, hrun, hdone⟩ :=
        ih (s := { s with inputs := List.replicate n .clock ++ rest, waited := s.waited + 1 }) hr hb (by omega)
          (by change _ ≤ s.waited + 1 + n; omega) rfl
      exact ⟨k + 1, t, by omega, by omega, (run_succ_of_step (M := core) k hcycle).trans hrun, hdone⟩
    · rw [if_neg hbelow] at hcycle
      obtain ⟨t, hexec⟩ := exec_next (decode s.cmd) { s with inputs := List.replicate n .clock ++ rest }
      have hrun : Host.Core.run core 1 s = .next t := (run_one core s).trans (hcycle.trans hexec)
      exact ⟨1, t, le_rfl, by omega, hrun, (exec_cases hexec).handshake⟩

/-- Settles O52: one cycle, and the run of cycles built from it. -/
theorem commandCompletesWithinMaxLatency : Obligations.CommandCompletesWithinMaxLatency :=
  ⟨fun _ _ => step_clock, fun _ _ _ => run_clocks_completes⟩

end Sys2Proof.Machine

/-! An engine that is not enabled: no command in flight, or held in reset (40_command_engine.md R122,
70_reset_and_hazards.md R260). -/

namespace Sys2Proof.Machine

theorem engineTurn_disabled {s : State} (h : engineEnabled s = false) : engineTurn s = .next s :=
  if_neg (Bool.not_eq_true _ ▸ h)

theorem clockCycle_disabled {s : State} (h : engineEnabled s = false) : clockCycle s = .next s :=
  if_neg (Bool.not_eq_true _ ▸ h)

theorem engineEnabled_of_idle {s : State} (h : s.busy = false) : engineEnabled s = false := by
  rw [engineEnabled, h, Bool.and_false]

theorem engineEnabled_of_low {s : State} (h : s.rstN = false) : engineEnabled s = false := by
  rw [engineEnabled, h, Bool.false_and]

/-- An engine that is not enabled lets its turn and the clock cycle pass. -/
theorem step_disabled {s : State} {rest : List Input} (he : engineEnabled s = false)
    (hin : s.inputs = .engine :: rest ∨ s.inputs = .clock :: rest) : step s = .next { s with inputs := rest } := by
  rcases hin with hin | hin <;> rw [step_of_inputs_cons hin]
  · exact engineTurn_disabled (s := { s with inputs := rest }) he
  · exact clockCycle_disabled (s := { s with inputs := rest }) he

theorem step_disabled_of_inputs_nil {s : State} (he : engineEnabled s = false) (hin : s.inputs = []) :
    step s = .next s := (step_of_inputs_nil hin).trans (engineTurn_disabled he)

/-- With no command in flight the machine does nothing by itself (R122, R263). -/
theorem step_idle {s : State} {rest : List Input} (hb : s.busy = false)
    (hin : s.inputs = [] ∧ rest = [] ∨ s.inputs = .engine :: rest ∨ s.inputs = .clock :: rest) :
    step s = .next { s with inputs := rest } := by
  have he := engineEnabled_of_idle hb
  rcases hin with ⟨hnil, rfl⟩ | hin
  · rw [← hnil]
    exact step_disabled_of_inputs_nil he hnil
  · exact step_disabled he hin

end Sys2Proof.Machine

/-! Soft reset, hardware reset, the accesses while held in reset, and the registers after a reset
(70_reset_and_hazards.md R260 to R263). -/

namespace Sys2Proof.Machine

open Claims

/-- A write to `CTRL` with bit 1 set is a reset, answered OKAY. -/
theorem busWrite_ctrl_softReset {s : State} {w : Word} (hr : s.rstN = true) (hw : w[1] = true) :
    busWrite 0x000004#24 w s = reply (.wrote .okay) (resetElements s) := by
  rw [busWrite_ctrl w hr, writeCtrl_softReset s hw]

theorem readReg_ctrl_toNat (s : State) : (readReg .ctrl s).toNat = s.irqEn.toNat := by
  simp only [readReg, append_toNat, BitVec.toNat_ofBool, BitVec.toNat_ofNat]
  omega

/-- `CTRL` shows the interrupt enable in bit 0 and nothing else (10_state.md R25). -/
theorem readReg_ctrl_layout (s : State) :
    (readReg .ctrl s)[1] = false ∧ (readReg .ctrl s)[0] = s.irqEn ∧ (readReg .ctrl s).extractLsb' 2 30 = 0 := by
  have hword := readReg_ctrl_toNat s
  have hle := s.irqEn.toNat_le
  have hfalse : Bool.toNat false = 0 := rfl
  have hzero : (0 : BitVec 30).toNat = 0 := BitVec.toNat_zero
  exact ⟨getElem_eq_of_toNat (by omega), getElem_eq_of_toNat (by omega), extractLsb'_eq_of_toNat (by omega)⟩

/-- Settles O45: the write is the reset of every element, which leaves no command in flight for the engine. -/
theorem softReset : Obligations.SoftReset := by
  refine ⟨fun s w hr hw => ?_, readReg_ctrl_layout⟩
  rw [busWrite_ctrl_softReset hr hw]
  refine ⟨?_, engineTurn_disabled (engineEnabled_of_idle rfl)⟩
  rw [← hr]
  rfl

/-- While `rst_n` is low a write is refused, whatever its address (R260). -/
theorem busWrite_low {s : State} (a : Addr) (w : Word) (hr : s.rstN = false) :
    busWrite a w s = reply (.wrote .error) s := if_neg (Bool.not_eq_true _ ▸ hr)

theorem busRead_low {s : State} (a : Addr) (hr : s.rstN = false) : busRead a s = reply (.read .error 0) s :=
  if_neg (Bool.not_eq_true _ ▸ hr)

/-- Settles O46: the two resets, and while the pin is low one case per kind of input. -/
theorem hardwareResetHolds : Obligations.HardwareResetHolds := by
  refine ⟨fun s rest hin => step_of_inputs_cons hin, fun s w rest hin hr hw => ?_, fun s rest hr =>
    ⟨fun a w hin => ?_, fun a hin => ?_, step_disabled (engineEnabled_of_low hr), step_of_inputs_cons,
      step_disabled_of_inputs_nil (engineEnabled_of_low hr)⟩⟩
  · have hwrite := busWrite_ctrl_softReset (s := { s with inputs := rest }) hr hw
    rw [step_of_inputs_cons hin, ← hr]
    exact congrArg Host.Outcome.next hwrite
  · rw [step_of_inputs_cons hin]
    exact congrArg Host.Outcome.next (busWrite_low (s := { s with inputs := rest }) a w hr)
  · rw [step_of_inputs_cons hin]
    exact congrArg Host.Outcome.next (busRead_low (s := { s with inputs := rest }) a hr)

/-- Of what a reset keeps, only the parameter can be read from a register, as `BUF_DEPTH`. -/
theorem readReg_resetElements_of_ne {r : Reg} (hr : r ≠ .bufDepth) (s : State) :
    readReg r (resetElements s) = readReg r State.reset := by
  cases r with
  | bufDepth => exact absurd rfl hr
  | _ => rfl

theorem resetColumn_of_ne {r : Reg} (hr : r ≠ .bufDepth) (d : Nat) : resetColumn d r = resetColumn 0 r := by
  simp only [resetColumn, if_neg hr]

/-- The registers right after power-up against the reset column of 10_state.md R23. -/
theorem readReg_stateReset {r : Reg} (hr : r ≠ .bufDepth) : readReg r State.reset = resetColumn 0 r := by
  cases r with
  | bufDepth => exact absurd rfl hr
  | _ => decide

/-- A reset leaves every register at its reset value (R261). -/
theorem readReg_resetElements (r : Reg) (s : State) : readReg r (resetElements s) = resetColumn s.bufDepth r := by
  by_cases hr : r = .bufDepth
  · subst hr
    rfl
  · rw [readReg_resetElements_of_ne hr, resetColumn_of_ne hr, readReg_stateReset hr]

/-- Settles O47: the flags and the register table of the reset, and that an idle machine stays as it is. -/
theorem stateAfterReset : Obligations.StateAfterReset := fun s =>
  ⟨rfl, rfl, rfl, rfl, rfl, rfl, rfl, rfl, rfl, rfl, rfl, rfl, fun r => readReg_resetElements r s, fun _ hin =>
    ⟨step_idle (s := resetElements s) rfl hin, fun hb => step_idle hb hin⟩⟩

end Sys2Proof.Machine
